-- ==== Sys2Proof/Word.lean ====
section
/-! DEFINITION. The words of the block: bytes, bus addresses, command words, time stamps (spec/00_scope.md R5, R8;
spec/20_memory.md R70; spec/30_encoding.md R100). -/

namespace Sys2Proof

/-- The byte: 8 bits in every space (R70). -/
abbrev Byte := BitVec 8

/-- `PERIOD_W`, the width of the pulse and triangle period (R5). -/
@[simp] abbrev periodBits : Nat := 11

/-- `ADDR_W`, the width of a bus address (R5). -/
@[simp] abbrev addrBits : Nat := 16

/-- `TIME_W`, the width of the frame-time counter (R5). -/
@[simp] abbrev timeBits : Nat := 32

/-- A pulse or triangle period (R25, R26). -/
abbrev Period := BitVec periodBits

/-- A bus address. -/
abbrev Addr := BitVec addrBits

/-- A host command word (R100). -/
abbrev Word := BitVec 32

/-- A frame-time stamp; addition is modulo `2^TIME_W` (R149). -/
abbrev Time := BitVec timeBits

/-- The operand of ADVANCE: 28 bits, unsigned (R103). -/
abbrev Cycles := BitVec 28

end Sys2Proof
end

