-- ==== Sys2Proof/Config.lean ====
section
/-! DEFINITION. The parameters of the block (spec/00_scope.md R5) as a record, the check a configuration must pass
(R5, spec/93_implementation_defined.md U8), and the one free value (U2). The values of the parameters stand in
Sys2Proof/Machine/Tables.lean. -/

namespace Sys2Proof

/-- Clock domain: NTSC or PAL (spec/10_state.md R22, `domain`). -/
inductive Domain where
  | ntsc
  | pal
deriving DecidableEq, Repr

/-- What SETCLK swaps: clock rate, sequencer period and the two period tables (spec/20_memory.md R85). -/
structure DomainParams where
  /-- `CLOCK_HZ`; no rule depends on it. -/
  clockHz     : Nat
  /-- `SEQ_PERIOD`: master cycles per sequencer step. -/
  seqPeriod   : BitVec 16
  /-- `NOISE_PERIOD[domain]`, R83. -/
  noisePeriod : Vector (BitVec 12) 16
  /-- `DMC_PERIOD[domain]`, R84. -/
  dmcPeriod   : Vector (BitVec 9) 16
deriving DecidableEq, Repr

/-- The parameter table of R5, one field each. `SampleRead` is no field: the host supplies it as the store held in
State (log entry 3). -/
structure Config where
  /-- `WINDOW_SIZE`, the number of window entries (R71). -/
  windowSize  : Nat
  /-- `PERIOD_W`. -/
  periodW     : Nat
  /-- `ADDR_W`. -/
  addrW       : Nat
  /-- `TIME_W`. -/
  timeW       : Nat
  windowBase  : Addr
  offStatus   : BitVec 5
  offMode     : BitVec 5
  /-- `MIN_SLICE`, in master cycles. -/
  minSlice    : Nat
  /-- `LENGTH_TABLE`, R80. -/
  lengthTable : Vector (BitVec 8) 32
  /-- `DUTY_TABLE`, R81. -/
  dutyTable   : Vector (Vector Bool 16) 4
  /-- `TRI_TABLE`, R82. -/
  triTable    : Vector (BitVec 4) 32
  ntsc        : DomainParams
  pal         : DomainParams
  /-- `DAC1`, the analogue transfer of the pulse sum (R304; open, D23, U11). -/
  dac1        : Nat → Rat
  /-- `DAC2`, the analogue transfer of the triangle, noise and sample levels (R304; open, D23, U11). -/
  dac2        : Nat → Nat → Nat → Rat

/-- The parameters a clock domain selects (R85). -/
def Config.params (c : Config) : Domain → DomainParams
  | .ntsc => c.ntsc
  | .pal  => c.pal

/-- R5's constraint on one domain: no zero entry, no zero sequencer period. -/
def DomainParams.valid (d : DomainParams) : Bool :=
  d.seqPeriod != 0 && d.noisePeriod.toList.all (· != 0) && d.dmcPeriod.toList.all (· != 0)

/-- The width parameters are the widths of the types `Period`, `Addr` and `Time`, and the window is as large as its
5-bit offset reaches (R71). Log entry 6. -/
def Config.fitsTypes (c : Config) : Bool :=
  c.windowSize == 2 ^ 5 && c.periodW == periodBits && c.addrW == addrBits && c.timeW == timeBits

/-- A configuration a model accepts (R5, U8). -/
def Config.valid (c : Config) : Bool :=
  c.fitsTypes && c.ntsc.valid && c.pal.valid

/-- FREE VALUE (U2): the byte the external store presents at an address with no loaded byte, "made anew at each
fetch": the argument counts such fetches (`State.draws`). Log entry 2. -/
opaque Config.freeByte : Nat → Byte

end Sys2Proof
end

