-- ==== Sys2Proof/Machine/Tables.lean ====
section
/-! DEFINITION. The values of the parameters: spec/00_scope.md R5 and the five lookup tables of spec/20_memory.md R80 to
R84, all at the spec's defaults (log entry 6), the lookups the rules make, and the window test. -/

namespace Sys2Proof.Machine

/-- `LENGTH_TABLE` (R80). -/
def lengthTableDefault : Vector (BitVec 8) 32 :=
  #v[10, 254, 20, 2, 40, 4, 80, 6, 160, 8, 60, 10, 14, 12, 26, 14,
     12, 16, 24, 18, 48, 20, 96, 22, 192, 24, 72, 26, 16, 28, 32, 30]

/-- `DUTY_TABLE` (R81), one row per duty; `false` = output zero, `true` = output the volume. -/
def dutyTableDefault : Vector (Vector Bool 16) 4 :=
  let o := false
  let i := true
  #v[#v[o, o, i, i, o, o, o, o, o, o, o, o, o, o, o, o],
     #v[o, o, i, i, i, i, o, o, o, o, o, o, o, o, o, o],
     #v[o, o, i, i, i, i, i, i, i, i, o, o, o, o, o, o],
     #v[i, i, o, o, o, o, i, i, i, i, i, i, i, i, i, i]]

/-- `TRI_TABLE` (R82). -/
def triTableDefault : Vector (BitVec 4) 32 :=
  #v[15, 14, 13, 12, 11, 10, 9, 8, 7, 6, 5, 4, 3, 2, 1, 0,
     0, 1, 2, 3, 4, 5, 6, 7, 8, 9, 10, 11, 12, 13, 14, 15]

/-- NTSC: clock rate and `SEQ_PERIOD` (R5), `NOISE_PERIOD` (R83), `DMC_PERIOD` (R84). -/
def ntscDefault : DomainParams where
  clockHz     := 1789773
  seqPeriod   := 7457
  noisePeriod := #v[4, 8, 16, 32, 64, 96, 128, 160, 202, 254, 380, 508, 762, 1016, 2034, 4068]
  dmcPeriod   := #v[428, 380, 340, 320, 286, 254, 226, 214, 190, 160, 142, 128, 106, 84, 72, 54]

/-- PAL: the same four. -/
def palDefault : DomainParams where
  clockHz     := 1662607
  seqPeriod   := 6927
  noisePeriod := #v[4, 8, 14, 30, 60, 88, 118, 148, 188, 236, 354, 472, 708, 944, 1890, 3778]
  dmcPeriod   := #v[398, 354, 316, 298, 276, 236, 210, 198, 176, 148, 132, 118, 98, 78, 66, 50]

/-- `DAC1`, the default transfer of `pin1` (R304). Log entry 10. -/
def dac1 (n : Nat) : Rat :=
  if n = 0 then 0 else (9588 / 100) / (8128 / (n : Rat) + 100)

/-- `DAC2`, the default transfer of `pin2` (R304). Log entry 10. -/
def dac2 (t n d : Nat) : Rat :=
  if t = 0 ∧ n = 0 ∧ d = 0 then 0
  else (15979 / 100) / (1 / ((t : Rat) / 8227 + (n : Rat) / 12241 + (d : Rat) / 22638) + 100)

/-- The configuration this model runs: every parameter at its default (R5). -/
def chip : Config where
  windowSize  := 32
  periodW     := periodBits
  addrW       := addrBits
  timeW       := timeBits
  windowBase  := 0x4000
  offStatus   := 0x15
  offMode     := 0x17
  minSlice    := 7
  lengthTable := lengthTableDefault
  dutyTable   := dutyTableDefault
  triTable    := triTableDefault
  ntsc        := ntscDefault
  pal         := palDefault
  dac1        := dac1
  dac2        := dac2

/-- `LENGTH_TABLE[i]`. -/
def lengthOf (i : BitVec 5) : BitVec 8 := chip.lengthTable[i.toNat]'i.isLt

/-- `DUTY_TABLE[duty][step] = 1`. -/
def dutyBit (duty : BitVec 2) (step : BitVec 4) : Bool :=
  (chip.dutyTable[duty.toNat]'duty.isLt)[step.toNat]'step.isLt

/-- `TRI_TABLE[i]`. -/
def triLevel (i : BitVec 5) : BitVec 4 := chip.triTable[i.toNat]'i.isLt

/-- `NOISE_PERIOD[d][i]` (R85). -/
def noisePeriod (d : Domain) (i : BitVec 4) : BitVec 12 := (chip.params d).noisePeriod[i.toNat]'i.isLt

/-- `DMC_PERIOD[d][i]` (R85). -/
def dmcPeriod (d : Domain) (i : BitVec 4) : BitVec 9 := (chip.params d).dmcPeriod[i.toNat]'i.isLt

/-- `SEQ_PERIOD[d]`. -/
def seqPeriod (d : Domain) : BitVec 16 := (chip.params d).seqPeriod

/-- The window test of R71 and R142: the `WINDOW_SIZE` addresses from `WINDOW_BASE` on, on natural numbers. -/
def inWindow (a : Addr) : Bool :=
  decide (chip.windowBase.toNat ≤ a.toNat) && decide (a.toNat < chip.windowBase.toNat + chip.windowSize)

/-- The bus address of a window offset. -/
def windowAddr (off : BitVec 5) : Addr :=
  chip.windowBase + off.setWidth addrBits

end Sys2Proof.Machine
end

