-- ==== Sys2Proof/Syntax.lean ====
section
/-! DEFINITION. The host commands as terms: one constructor per row of spec/opcode_table.json
(spec/30_encoding.md R100 to R108), the five channels, the host's actions between commands
(spec/20_memory.md R77), and the reasons a word stands for no command (R107). -/

namespace Sys2Proof

/-- The five generators in channel-number order 0 to 4 (spec/10_state.md R29, spec/46_mixer.md R300). -/
inductive Channel where
  | p1
  | p2
  | tri
  | noi
  | dmc
deriving DecidableEq, Repr

/-- One host command. A WRITE names its window offset by its constructor; the data byte is kept whole, ignored bits
included (R127). -/
inductive Instr where
  /-- `WR.P1.0`: WRITE to P1 sub-register 0 (R191). -/
  | wrP1R0 (data : Byte)
  /-- `WR.P1.1`: WRITE to P1 sub-register 1 (R192). -/
  | wrP1R1 (data : Byte)
  /-- `WR.P1.2`: WRITE to P1 sub-register 2 (R193). -/
  | wrP1R2 (data : Byte)
  /-- `WR.P1.3`: WRITE to P1 sub-register 3 (R194). -/
  | wrP1R3 (data : Byte)
  /-- `WR.P2.0`: WRITE to P2 sub-register 0 (R205). -/
  | wrP2R0 (data : Byte)
  /-- `WR.P2.1`: WRITE to P2 sub-register 1 (R206). -/
  | wrP2R1 (data : Byte)
  /-- `WR.P2.2`: WRITE to P2 sub-register 2 (R207). -/
  | wrP2R2 (data : Byte)
  /-- `WR.P2.3`: WRITE to P2 sub-register 3 (R208). -/
  | wrP2R3 (data : Byte)
  /-- `WR.TRI.0`: WRITE to TRI sub-register 0 (R231). -/
  | wrTriR0 (data : Byte)
  /-- `WR.TRI.1`: WRITE to TRI sub-register 1 (R232). -/
  | wrTriR1 (data : Byte)
  /-- `WR.TRI.2`: WRITE to TRI sub-register 2 (R233). -/
  | wrTriR2 (data : Byte)
  /-- `WR.TRI.3`: WRITE to TRI sub-register 3 (R234). -/
  | wrTriR3 (data : Byte)
  /-- `WR.NOI.0`: WRITE to NOI sub-register 0 (R251). -/
  | wrNoiR0 (data : Byte)
  /-- `WR.NOI.1`: WRITE to NOI sub-register 1 (R252). -/
  | wrNoiR1 (data : Byte)
  /-- `WR.NOI.2`: WRITE to NOI sub-register 2 (R253). -/
  | wrNoiR2 (data : Byte)
  /-- `WR.NOI.3`: WRITE to NOI sub-register 3 (R254). -/
  | wrNoiR3 (data : Byte)
  /-- `WR.DMC.0`: WRITE to DMC sub-register 0 (R271). -/
  | wrDmcR0 (data : Byte)
  /-- `WR.DMC.1`: WRITE to DMC sub-register 1 (R272). -/
  | wrDmcR1 (data : Byte)
  /-- `WR.DMC.2`: WRITE to DMC sub-register 2 (R273). -/
  | wrDmcR2 (data : Byte)
  /-- `WR.DMC.3`: WRITE to DMC sub-register 3 (R274). -/
  | wrDmcR3 (data : Byte)
  /-- `WR.X14`: WRITE to the unassigned window offset 0x14 (R145). -/
  | wrX14 (data : Byte)
  /-- `WR.X16`: WRITE to the unassigned window offset 0x16 (R145). -/
  | wrX16 (data : Byte)
  /-- `WR.X18`: WRITE to the unassigned window offset 0x18 (R145). -/
  | wrX18 (data : Byte)
  /-- `WR.X19`: WRITE to the unassigned window offset 0x19 (R145). -/
  | wrX19 (data : Byte)
  /-- `WR.X1A`: WRITE to the unassigned window offset 0x1A (R145). -/
  | wrX1A (data : Byte)
  /-- `WR.X1B`: WRITE to the unassigned window offset 0x1B (R145). -/
  | wrX1B (data : Byte)
  /-- `WR.X1C`: WRITE to the unassigned window offset 0x1C (R145). -/
  | wrX1C (data : Byte)
  /-- `WR.X1D`: WRITE to the unassigned window offset 0x1D (R145). -/
  | wrX1D (data : Byte)
  /-- `WR.X1E`: WRITE to the unassigned window offset 0x1E (R145). -/
  | wrX1E (data : Byte)
  /-- `WR.X1F`: WRITE to the unassigned window offset 0x1F (R145). -/
  | wrX1F (data : Byte)
  /-- `WR.STATUS`: enable fan-out (R143). -/
  | wrStatus (data : Byte)
  /-- `WR.MODE`: sequencer mode (R171). -/
  | wrMode (data : Byte)
  /-- `WR.OUT`: WRITE to an address outside the window (R142, R145). -/
  | wrOut (addr : Addr) (data : Byte)
  /-- `RD.STATUS` (R146). -/
  | rdStatus
  /-- `RD.UNMAPPED`: READ of any other address (R147). -/
  | rdUnmapped (addr : Addr)
  /-- `ADV` (R148). -/
  | adv (cycles : Cycles)
  /-- `RST` (R141). -/
  | rst
  /-- `EOF`, ENDFRAME (R152). -/
  | eof
  /-- `CLK`, SETCLK (R153). -/
  | clk (domain : Domain)
  /-- `GETP.P1` (R154). -/
  | getpP1
  /-- `GETP.P2` (R154). -/
  | getpP2
  /-- `GETP.TRI` (R154). -/
  | getpTri
  /-- `GETP.NOI` (R154). -/
  | getpNoi
  /-- `GETP.DMC` (R154). -/
  | getpDmc
deriving DecidableEq, Repr

/-- Why a command word is reserved (R107; spec/93_implementation_defined.md U3, U4, U9). -/
inductive DecodeError where
  /-- `op` is 0x0 or 0x8 to 0xF (U3). -/
  | reservedOperation
  /-- A field marked "zero" in R101 to R106 is not zero (U4). -/
  | nonzeroField
  /-- GETPERIOD of channel 5, 6 or 7 (U9). -/
  | reservedChannel
deriving DecidableEq, Repr

/-- What the host can do, one thing at a time (R86): issue a command word, or act on the external sample store
between two commands (R77; the directives `.SMP LOAD` and `.SMP CLEAR` of R125). -/
inductive HostAction where
  | word  (w : Word)
  | load  (bytes : List Byte)
  | clear
deriving DecidableEq, Repr

end Sys2Proof
end

