-- ==== Sys2Proof/WellFormed.lean ====
section
/-! DEFINITION. Which terms of `Instr` are commands: the two catch-all rows of the opcode table name only the
addresses that no earlier row takes (spec/30_encoding.md R108, spec/40_host_commands.md R142, R147). -/

namespace Sys2Proof

/-- A term is well-formed when its word is decoded by its own row: `WR.OUT` takes addresses outside the window,
`RD.UNMAPPED` every address but that of STATUS. Every other operand is legal at every value. -/
def Instr.wf : Instr → Bool
  | .wrOut a _     => !Machine.inWindow a
  | .rdUnmapped a  => a != Machine.windowAddr Machine.chip.offStatus
  | .wrP1R0 _  | .wrP1R1 _  | .wrP1R2 _  | .wrP1R3 _
  | .wrP2R0 _  | .wrP2R1 _  | .wrP2R2 _  | .wrP2R3 _
  | .wrTriR0 _ | .wrTriR1 _ | .wrTriR2 _ | .wrTriR3 _
  | .wrNoiR0 _ | .wrNoiR1 _ | .wrNoiR2 _ | .wrNoiR3 _
  | .wrDmcR0 _ | .wrDmcR1 _ | .wrDmcR2 _ | .wrDmcR3 _
  | .wrX14 _ | .wrX16 _ | .wrX18 _ | .wrX19 _ | .wrX1A _
  | .wrX1B _ | .wrX1C _ | .wrX1D _ | .wrX1E _ | .wrX1F _
  | .wrStatus _ | .wrMode _ | .rdStatus | .adv _ | .rst | .eof | .clk _
  | .getpP1 | .getpP2 | .getpTri | .getpNoi | .getpDmc => true

end Sys2Proof
end

