-- ==== Sys2Proof/Decode.lean ====
section
/-! DEFINITION. Decoding a 32-bit command word (spec/30_encoding.md R100 to R108, with the register decoder of
spec/40_host_commands.md R142 to R147) and encoding a command (R101 to R106). A word is a number, not a byte string
(spec/92_eei_decisions.md D29); there is one length (R100). -/

namespace Sys2Proof
open Machine

/-! ## The fields of a word -/

/-- Bits 31:28 (R100). -/
def opField (w : Word) : BitVec 4 := w.extractLsb' 28 4

/-- Bits 27:24, zero in formats W and R (R101, R102). -/
def zeroField (w : Word) : BitVec 4 := w.extractLsb' 24 4

/-- Bits 23:8 (R101, R102). -/
def addrField (w : Word) : Addr := w.extractLsb' 8 16

/-- Bits 7:0 (R101); zero in format R (R102). -/
def dataField (w : Word) : Byte := w.extractLsb' 0 8

/-- Bits 27:0: the cycle count of format A (R103), zero in format Z (R104). -/
def lowField (w : Word) : Cycles := w.extractLsb' 0 28

/-- Bits 27:1, zero in format C (R105). -/
def zeroFieldC (w : Word) : BitVec 27 := w.extractLsb' 1 27

/-- Bit 0: the domain of format C (R105). -/
def domainField (w : Word) : Domain := if w.getLsbD 0 then .pal else .ntsc

/-- Bits 27:3, zero in format Q (R106). -/
def zeroFieldQ (w : Word) : BitVec 25 := w.extractLsb' 3 25

/-- Bits 2:0: the channel of format Q (R106). -/
def channelField (w : Word) : BitVec 3 := w.extractLsb' 0 3

/-! ## The register decoder -/

/-- Choose by the 2-bit sub-register index `off & 3` (R144). -/
def bySubRegister (off : BitVec 5) (r0 r1 r2 r3 : Instr) : Instr :=
  match (off &&& 0x03).toNat with
  | 0 => r0
  | 1 => r1
  | 2 => r2
  | _ => r3

/-- A WRITE to an offset that is neither special nor in one of the five ranges (R145): 0x14, 0x16, 0x18 to 0x1F. -/
def unassignedWrite (off : BitVec 5) (data : Byte) : Instr :=
  match off.toNat with
  | 0x14 => .wrX14 data
  | 0x16 => .wrX16 data
  | 0x18 => .wrX18 data
  | 0x19 => .wrX19 data
  | 0x1A => .wrX1A data
  | 0x1B => .wrX1B data
  | 0x1C => .wrX1C data
  | 0x1D => .wrX1D data
  | 0x1E => .wrX1E data
  | _    => .wrX1F data

/-- A WRITE inside the window: the two special offsets first (R142), then the range mask `off & 0x1C` (R144). -/
def windowWrite (off : BitVec 5) (data : Byte) : Instr :=
  if off = chip.offStatus then .wrStatus data
  else if off = chip.offMode then .wrMode data
  else if off &&& 0x1C = 0x00 then
    bySubRegister off (.wrP1R0 data) (.wrP1R1 data) (.wrP1R2 data) (.wrP1R3 data)
  else if off &&& 0x1C = 0x04 then
    bySubRegister off (.wrP2R0 data) (.wrP2R1 data) (.wrP2R2 data) (.wrP2R3 data)
  else if off &&& 0x1C = 0x08 then
    bySubRegister off (.wrTriR0 data) (.wrTriR1 data) (.wrTriR2 data) (.wrTriR3 data)
  else if off &&& 0x1C = 0x0C then
    bySubRegister off (.wrNoiR0 data) (.wrNoiR1 data) (.wrNoiR2 data) (.wrNoiR3 data)
  else if off &&& 0x1C = 0x10 then
    bySubRegister off (.wrDmcR0 data) (.wrDmcR1 data) (.wrDmcR2 data) (.wrDmcR3 data)
  else unassignedWrite off data

/-- WRITE `data` to bus address `addr` (R142): outside the window it is `WR.OUT`. -/
def writeCommand (addr : Addr) (data : Byte) : Instr :=
  if inWindow addr then windowWrite ((addr - chip.windowBase).setWidth 5) data
  else .wrOut addr data

/-- READ of bus address `addr` (R146, R147): only STATUS is mapped. -/
def readCommand (addr : Addr) : Instr :=
  if addr = windowAddr chip.offStatus then .rdStatus else .rdUnmapped addr

/-- GETPERIOD of a channel number (R106, R154); 5, 6 and 7 name no generator (U9). -/
def periodCommand (channel : BitVec 3) : Except DecodeError Instr :=
  match channel.toNat with
  | 0 => .ok .getpP1
  | 1 => .ok .getpP2
  | 2 => .ok .getpTri
  | 3 => .ok .getpNoi
  | 4 => .ok .getpDmc
  | _ => .error .reservedChannel

/-! ## Decode -/

/-- The decoder: total, and a reserved word is rejected by name (R107). -/
def decode (w : Word) : Except DecodeError Instr :=
  match (opField w).toNat with
  | 1 => if zeroField w = 0 then .ok (writeCommand (addrField w) (dataField w)) else .error .nonzeroField
  | 2 => if zeroField w = 0 ∧ dataField w = 0 then .ok (readCommand (addrField w)) else .error .nonzeroField
  | 3 => .ok (.adv (lowField w))
  | 4 => if lowField w = 0 then .ok .rst else .error .nonzeroField
  | 5 => if lowField w = 0 then .ok .eof else .error .nonzeroField
  | 6 => if zeroFieldC w = 0 then .ok (.clk (domainField w)) else .error .nonzeroField
  | 7 => if zeroFieldQ w = 0 then periodCommand (channelField w) else .error .nonzeroField
  | _ => .error .reservedOperation

/-- The command word made of the `nbits` low bits of `w`, every bit above them 0. -/
def tableWord (nbits w : Nat) : Word := BitVec.ofNat 32 (w % 2 ^ nbits)

/-- What the decoder reads from the word whose bits, numbered as the opcode table numbers them, are `w`. -/
def decodeTableWord (nbits w : Nat) : Option Instr :=
  match decode (tableWord nbits w) with
  | .ok i    => some i
  | .error _ => none

/-! ## Encode -/

/-- Format W (R101). -/
def writeWord (addr : Addr) (data : Byte) : Word := 0x1#4 ++ 0#4 ++ addr ++ data

/-- Format R (R102). -/
def readWord (addr : Addr) : Word := 0x2#4 ++ 0#4 ++ addr ++ 0#8

/-- Format A (R103). -/
def advanceWord (n : Cycles) : Word := 0x3#4 ++ n

/-- Format Z (R104). -/
def plainWord (op : BitVec 4) : Word := op ++ 0#28

/-- Format C (R105): 0 = NTSC, 1 = PAL. -/
def setClockWord : Domain → Word
  | .ntsc => 0x6#4 ++ 0#27 ++ 0#1
  | .pal  => 0x6#4 ++ 0#27 ++ 1#1

/-- Format Q (R106). -/
def getPeriodWord (channel : BitVec 3) : Word := 0x7#4 ++ 0#25 ++ channel

/-- The word of a command. -/
def encode : Instr → Word
  | .wrP1R0 d     => writeWord (windowAddr 0x00) d
  | .wrP1R1 d     => writeWord (windowAddr 0x01) d
  | .wrP1R2 d     => writeWord (windowAddr 0x02) d
  | .wrP1R3 d     => writeWord (windowAddr 0x03) d
  | .wrP2R0 d     => writeWord (windowAddr 0x04) d
  | .wrP2R1 d     => writeWord (windowAddr 0x05) d
  | .wrP2R2 d     => writeWord (windowAddr 0x06) d
  | .wrP2R3 d     => writeWord (windowAddr 0x07) d
  | .wrTriR0 d    => writeWord (windowAddr 0x08) d
  | .wrTriR1 d    => writeWord (windowAddr 0x09) d
  | .wrTriR2 d    => writeWord (windowAddr 0x0A) d
  | .wrTriR3 d    => writeWord (windowAddr 0x0B) d
  | .wrNoiR0 d    => writeWord (windowAddr 0x0C) d
  | .wrNoiR1 d    => writeWord (windowAddr 0x0D) d
  | .wrNoiR2 d    => writeWord (windowAddr 0x0E) d
  | .wrNoiR3 d    => writeWord (windowAddr 0x0F) d
  | .wrDmcR0 d    => writeWord (windowAddr 0x10) d
  | .wrDmcR1 d    => writeWord (windowAddr 0x11) d
  | .wrDmcR2 d    => writeWord (windowAddr 0x12) d
  | .wrDmcR3 d    => writeWord (windowAddr 0x13) d
  | .wrX14 d      => writeWord (windowAddr 0x14) d
  | .wrX16 d      => writeWord (windowAddr 0x16) d
  | .wrX18 d      => writeWord (windowAddr 0x18) d
  | .wrX19 d      => writeWord (windowAddr 0x19) d
  | .wrX1A d      => writeWord (windowAddr 0x1A) d
  | .wrX1B d      => writeWord (windowAddr 0x1B) d
  | .wrX1C d      => writeWord (windowAddr 0x1C) d
  | .wrX1D d      => writeWord (windowAddr 0x1D) d
  | .wrX1E d      => writeWord (windowAddr 0x1E) d
  | .wrX1F d      => writeWord (windowAddr 0x1F) d
  | .wrStatus d   => writeWord (windowAddr chip.offStatus) d
  | .wrMode d     => writeWord (windowAddr chip.offMode) d
  | .wrOut a d    => writeWord a d
  | .rdStatus     => readWord (windowAddr chip.offStatus)
  | .rdUnmapped a => readWord a
  | .adv n        => advanceWord n
  | .rst          => plainWord 0x4
  | .eof          => plainWord 0x5
  | .clk d        => setClockWord d
  | .getpP1       => getPeriodWord 0
  | .getpP2       => getPeriodWord 1
  | .getpTri      => getPeriodWord 2
  | .getpNoi      => getPeriodWord 3
  | .getpDmc      => getPeriodWord 4

end Sys2Proof
end

