-- ==== Sys2Proof/Machine/State.lean ====
section
/-! DEFINITION. The state of the block (spec/10_state.md R20, R22, R25 to R29), the model's own fields that hold what
the host still wants and what it has seen (spec/00_scope.md R6, R7), the reasons a step can stop, and the state after
reset (R33, R34; spec/70_reset_and_hazards.md R350, R351). Widths are those of the spec's field tables. -/

namespace Sys2Proof.Machine

/-! ## Generators -/

/-- The envelope fields that a pulse and the noise generator share in shape (R25, R27; R250). -/
structure Envelope where
  /-- `env_loop`: envelope loop flag and length-counter halt flag. -/
  loop  : Bool
  /-- `env_const`: constant volume. -/
  const : Bool
  /-- `vol`: constant volume and divider period. -/
  vol   : BitVec 4
  /-- `env_div`: divider, counts fast ticks down to 0. -/
  div   : BitVec 4
  /-- `env_vol`: the decay level. -/
  level : BitVec 4
deriving DecidableEq, Repr

/-- A pulse generator (R25). -/
structure Pulse where
  duty      : BitVec 2
  env       : Envelope
  swEn      : Bool
  swPeriod  : BitVec 3
  swNeg     : Bool
  swShift   : BitVec 3
  swDiv     : BitVec 3
  swWritten : Bool
  /-- `sw_result`, the one signed value (R10): an integer, -1 to 4094 in every reachable state. Log entry 9. -/
  swResult  : Int
  period    : Period
  timer     : BitVec 12
  dutyStep  : BitVec 4
  length    : BitVec 8
  ctrl      : Bool
  enabled   : Bool
deriving DecidableEq, Repr

/-- The triangle generator (R26). -/
structure Triangle where
  triLoop    : Bool
  linReload  : BitVec 7
  linCounter : BitVec 7
  halt       : Bool
  period     : Period
  timer      : BitVec 12
  step       : BitVec 5
  length     : BitVec 8
  ctrl       : Bool
  enabled    : Bool
deriving DecidableEq, Repr

/-- The noise generator (R27). -/
structure Noise where
  env     : Envelope
  mode    : Bool
  period  : BitVec 12
  timer   : BitVec 12
  lfsr    : BitVec 15
  length  : BitVec 8
  ctrl    : Bool
  enabled : Bool
deriving DecidableEq, Repr

/-- The sample-playback unit (R28). -/
structure Dmc where
  irqEn   : Bool
  loop    : Bool
  period  : BitVec 9
  timer   : BitVec 9
  addrReg : BitVec 8
  lenReg  : BitVec 8
  curAddr : BitVec 15
  bytes   : BitVec 12
  buffer  : Byte
  filled  : Bool
  shift   : BitVec 8
  bitDiv  : BitVec 4
  silence : Bool
  delta   : BitVec 7
  irq     : Bool
deriving DecidableEq, Repr

/-- The mixing accumulator's level registers `mix_level` (R29). -/
structure Levels where
  p1  : BitVec 4
  p2  : BitVec 4
  tri : BitVec 4
  noi : BitVec 4
  dmc : BitVec 7
deriving DecidableEq, Repr

/-- The frame mode (R22). -/
inductive SeqMode where
  | fourStep
  | fiveStep
deriving DecidableEq, Repr

/-- Which of the two pulse generators (spec/42_pulse.md R190). -/
inductive PulseId where
  | p1
  | p2
deriving DecidableEq, Repr

/-! ## What the host sees (spec/00_scope.md R7) -/

/-- The response of READ (R146, R147) or GETPERIOD (R154). -/
inductive Response where
  | read   (data : Byte) (mapped : Bool)
  | period (value : BitVec 16)
deriving DecidableEq, Repr

/-- A level event (spec/46_mixer.md R301): channel, time stamp, signed change of level. -/
structure LevelEvent where
  ch    : Channel
  time  : Time
  delta : Int
deriving DecidableEq, Repr

/-- A sample fetch (spec/20_memory.md R76): the frame time of the fire that made it and the bus address. -/
structure SampleFetch where
  time : Time
  addr : Addr
deriving DecidableEq, Repr

/-! ## Memory -/

/-- The external sample store: the bytes now loaded, by bus address, addresses strictly rising. An unlisted address
holds no definite byte (spec/20_memory.md R77; spec/93_implementation_defined.md U2). -/
abbrev Memory := List Host.Cell

/-! ## State -/

/-- The state of the block and of its two neighbours, the host and the sample store. -/
structure State where
  p1        : Pulse
  p2        : Pulse
  tri       : Triangle
  noi       : Noise
  dmc       : Dmc
  /-- `seq_index`. -/
  seqIndex  : BitVec 3
  /-- `seq_mode`. -/
  seqMode   : SeqMode
  /-- `seq_div`: master cycles until the next sequencer step. -/
  seqDiv    : BitVec 16
  domain    : Domain
  /-- `frame_time`: master cycles since the last ENDFRAME or RESET. -/
  frameTime : Time
  levels    : Levels
  /-- The external sample store (R76); not state of the block (R20). Log entry 3. -/
  store     : Memory
  /-- MODEL'S OWN: how many free bytes have been drawn (U2). Log entry 2. -/
  draws     : Nat
  /-- MODEL'S OWN: what the host has still to do, next action first (R6, R86). Log entry 4. -/
  pending   : List HostAction
  /-- MODEL'S OWN: responses given, oldest first (R7 a, b). Log entry 5. -/
  responses : List Response
  /-- MODEL'S OWN: level events emitted, oldest first (R7 c). Log entry 5. -/
  events    : List LevelEvent
  /-- MODEL'S OWN: sample fetches issued, oldest first (R7 d). Log entry 5. -/
  fetches   : List SampleFetch
deriving DecidableEq, Repr

/-! ## Reasons a step can stop -/

/-- Faults: none. The block raises no exception and no operation of it can fail (spec/60_exceptions.md R320, R321;
spec/40_host_commands.md R157), so this type has no constructor. -/
inductive Fault where
deriving DecidableEq, Repr

/-- Refusals: inputs outside the set of runs the spec speaks about. -/
inductive Refusal where
  /-- Raised by an arm of `exec` that has no meaning yet; safe: the machine stops where the hardware goes on. -/
  | notModelled (mnemonic : String)
  /-- Raised by a step whose next action is a reserved command word (spec/30_encoding.md R107): it stands for no
  command, so nothing is executed; safe. -/
  | reservedWord (why : DecodeError)
  /-- Raised by a step whose next action is a store load of more than 0x4000 bytes, to which
  spec/20_memory.md R77 gives no effect; safe. Log entry 7. -/
  | loadTooLong
deriving DecidableEq, Repr

/-! ## Reset -/

/-- Envelope after RESET: all zero. -/
def Envelope.zero : Envelope :=
  { loop := false, const := false, vol := 0, div := 0, level := 0 }

/-- Pulse generator after RESET: all zero. -/
def Pulse.zero : Pulse :=
  { duty := 0, env := Envelope.zero, swEn := false, swPeriod := 0, swNeg := false, swShift := 0, swDiv := 0,
    swWritten := false, swResult := 0, period := 0, timer := 0, dutyStep := 0, length := 0, ctrl := false,
    enabled := false }

/-- Triangle generator after RESET: all zero. -/
def Triangle.zero : Triangle :=
  { triLoop := false, linReload := 0, linCounter := 0, halt := false, period := 0, timer := 0, step := 0,
    length := 0, ctrl := false, enabled := false }

/-- Noise generator after RESET: zero but for the shift register and the period latch (R33). -/
def Noise.afterReset (d : Domain) : Noise :=
  { env := Envelope.zero, mode := false, period := noisePeriod d 0, timer := 0, lfsr := 1, length := 0,
    ctrl := false, enabled := false }

/-- Sample-playback unit after RESET: zero but for the period latch and the timer (R33). -/
def Dmc.afterReset (d : Domain) : Dmc :=
  { irqEn := false, loop := false, period := dmcPeriod d 0, timer := dmcPeriod d 0, addrReg := 0, lenReg := 0,
    curAddr := 0, bytes := 0, buffer := 0, filled := false, shift := 0, bitDiv := 0, silence := false, delta := 0,
    irq := false }

/-- Level registers after RESET: all zero, with no event (R33). -/
def Levels.zero : Levels :=
  { p1 := 0, p2 := 0, tri := 0, noi := 0, dmc := 0 }

/-- The state of R33 in a given clock domain, nothing loaded, nothing pending, nothing shown yet. -/
def State.afterReset (d : Domain) : State :=
  { p1 := Pulse.zero, p2 := Pulse.zero, tri := Triangle.zero, noi := Noise.afterReset d, dmc := Dmc.afterReset d,
    seqIndex := 0, seqMode := .fourStep, seqDiv := seqPeriod d, domain := d, frameTime := 0, levels := Levels.zero,
    store := [], draws := 0, pending := [], responses := [], events := [], fetches := [] }

/-- The machine right after reset: the state of R33 with `domain` = NTSC, from which R34 and R351 let a model start.
Log entry 1. -/
def State.reset : State := State.afterReset .ntsc

end Sys2Proof.Machine
end

