-- ==== Sys2Proof/Machine/Flags.lean ====
section
/-! DEFINITION. The status flags (spec/10_state.md R30, R31): the active flag of each generator and the byte a STATUS
read answers. The block has no arithmetic condition codes (R30). -/

namespace Sys2Proof.Machine

/-- Active flag of a pulse generator (R196). -/
def Pulse.active (g : Pulse) : Bool := decide (g.length ≠ 0) && g.enabled

/-- Active flag of the triangle; the linear counter does not enter it (R236). -/
def Triangle.active (g : Triangle) : Bool := decide (g.length ≠ 0) && g.enabled

/-- Active flag of the noise generator (R256). -/
def Noise.active (g : Noise) : Bool := decide (g.length ≠ 0) && g.enabled

/-- Active flag of the sample unit (R276). -/
def Dmc.active (g : Dmc) : Bool := decide (g.bytes ≠ 0)

/-- The STATUS read byte `I 0 0 D N T 2 1` (R124, R146), bit 7 on the left. -/
def statusByte (s : State) : Byte :=
  BitVec.ofBool s.dmc.irq ++ 0#2 ++ BitVec.ofBool s.dmc.active ++ BitVec.ofBool s.noi.active
    ++ BitVec.ofBool s.tri.active ++ BitVec.ofBool s.p2.active ++ BitVec.ofBool s.p1.active

end Sys2Proof.Machine
end

