-- ==== Sys2Proof/Machine/Memory.lean ====
section
/-! DEFINITION. The external sample store (spec/20_memory.md R75 to R77): its canonical form, its one read, and the
host's two operations on it. The block itself writes no memory (spec/00_scope.md R9). -/

namespace Sys2Proof.Machine

/-- First address of the sample space (R70). -/
def sampleBase : Nat := 0x8000

/-- Where loaded bytes appear (R77). -/
def loadBase : Nat := 0xC000

/-- The longest load R77 speaks of. -/
def loadMax : Nat := 0x4000

/-- What an address with no loaded byte reads as: no definite byte; the fetch draws one (U2). Log entry 2. -/
def Memory.unlisted : Option Byte := none

/-- Canonical form: addresses strictly rising from `lo` on, all below 0x10000. No entry equals what an unlisted
address reads as, since that is no byte. -/
def Memory.wfFrom (lo : Nat) : Memory → Bool
  | []           => true
  | (a, _) :: m  => decide (lo ≤ a) && decide (a < 0x10000) && Memory.wfFrom (a + 1) m

/-- The store is in canonical form and lists only addresses of the sample space (R70). -/
def Memory.wf (m : Memory) : Bool := Memory.wfFrom sampleBase m

/-- The loaded byte at an address, if there is one (R76). -/
def Memory.read (m : Memory) (a : Nat) : Option Byte :=
  match m with
  | []            => Memory.unlisted
  | (b, v) :: m'  => if a = b then some v else Memory.read m' a

/-- Consecutive bytes from an address on. -/
def Memory.cells (a : Nat) : List Byte → Memory
  | []      => []
  | b :: bs => (a, b) :: Memory.cells (a + 1) bs

/-- `load(b[0..n-1])`: byte `i` at 0xC000 + `i`; every other address is unloaded afterwards (R77). -/
def Memory.load (bytes : List Byte) : Memory := Memory.cells loadBase bytes

/-- `clear`: no address is loaded afterwards (R77). -/
def Memory.clear : Memory := []

end Sys2Proof.Machine
end

