-- ==== Sys2Proof/Machine/Operands.lean ====
section
/-! DEFINITION. How each operand is built from the data byte of a WRITE (spec/30_encoding.md R110 to R124, R126). No
operand is sign-extended; ignored bits (R127) are read by nothing here. -/

namespace Sys2Proof.Machine

/-- Bit `k` of a data byte as a flag. -/
def flagBit (data : Byte) (k : Nat) : Bool := data.getLsbD k

/-! ## Envelope registers: pulse sub-register 0 (R110), noise sub-register 0 (R117) -/

/-- Bits 7:6 (R110). -/
def dutyOf (data : Byte) : BitVec 2 := data.extractLsb' 6 2

/-- Bits 3:0: constant volume and divider period (R110, R117). -/
def volOf (data : Byte) : BitVec 4 := data.extractLsb' 0 4

/-! ## Sweep register: pulse sub-register 1 (R111) -/

/-- Bits 6:4. -/
def swPeriodOf (data : Byte) : BitVec 3 := data.extractLsb' 4 3

/-- Bits 2:0. -/
def swShiftOf (data : Byte) : BitVec 3 := data.extractLsb' 0 3

/-! ## The 11-bit period in two parts (R112, R113, R116, R126; spec/20_memory.md R78) -/

/-- A sub-register 2 write replaces `period[7:0]`. -/
def withPeriodLow (period : Period) (data : Byte) : Period := period.extractLsb' 8 3 ++ data

/-- A sub-register 3 write replaces `period[10:8]` by data bits 2:0. -/
def withPeriodHigh (period : Period) (data : Byte) : Period := data.extractLsb' 0 3 ++ period.extractLsb' 0 8

/-- The timer reload of P1, P2 and TRI: `period + 1`, 1 to 2048 (R126). -/
def periodReload (period : Period) : BitVec 12 := period.setWidth 12 + 1

/-- The length load of a sub-register 3 write: `LENGTH_TABLE[data[7:3]]` (R126). -/
def lengthLoad (data : Byte) : BitVec 8 := lengthOf (data.extractLsb' 3 5)

/-! ## Triangle sub-register 0 (R114) -/

/-- Bits 6:0. -/
def linReloadOf (data : Byte) : BitVec 7 := data.extractLsb' 0 7

/-! ## Period indices (R119, R121) -/

/-- Bits 3:0: index into `NOISE_PERIOD[domain]` or `DMC_PERIOD[domain]`. -/
def periodIndexOf (data : Byte) : BitVec 4 := data.extractLsb' 0 4

/-! ## Sample unit (R122, R126) -/

/-- Bits 6:0: the delta counter load. -/
def deltaOf (data : Byte) : BitVec 7 := data.extractLsb' 0 7

/-- The sample start cursor `0x4000 | (addr_reg << 6)` (R126, R278). -/
def sampleCursor (addrReg : BitVec 8) : BitVec 15 := 0x4000 ||| (addrReg.setWidth 15 <<< 6)

/-- The sample length `(len_reg << 4) + 1` (R126, R278). -/
def sampleLength (lenReg : BitVec 8) : BitVec 12 := (lenReg.setWidth 12 <<< 4) + 1

/-- The bus address of a cursor: `0x8000 | cur_addr` (R75). -/
def sampleAddr (cursor : BitVec 15) : Addr := 0x8000 ||| cursor.setWidth addrBits

end Sys2Proof.Machine
end

