-- ==== Sys2Proof/Machine/Ops.lean ====
section
/-! DEFINITION. The shared operations of the block: access to a generator and to a level register by channel, the
output primitive SetLevel (spec/46_mixer.md R301), the sample read (spec/20_memory.md R76), the response of a READ or
GETPERIOD (spec/00_scope.md R9), RESET (spec/40_host_commands.md R141), and the timer scheme the four timer rules share.

Taking an exception and returning from one have no operation here: the block raises no exception, saves no state, has
no vector and no return (spec/60_exceptions.md R320, R324, R325). Its one interrupt-like item, `DMC.irq`, is a flag
(R322) that the rules of Sys2Proof/Machine/Dmc.lean set and clear. -/

namespace Sys2Proof.Machine

/-! ## Pulse generators by name (spec/42_pulse.md R190) -/

/-- The fields of pulse generator `p`. -/
def State.pulse (s : State) : PulseId → Pulse
  | .p1 => s.p1
  | .p2 => s.p2

/-- Replace the fields of pulse generator `p`. -/
def State.setPulse (s : State) (p : PulseId) (g : Pulse) : State :=
  match p with
  | .p1 => { s with p1 := g }
  | .p2 => { s with p2 := g }

/-- The channel of pulse generator `p`. -/
def PulseId.channel : PulseId → Channel
  | .p1 => .p1
  | .p2 => .p2

/-! ## Level registers -/

/-- `mix_level[ch]` (R29) as a number. -/
def Levels.get (l : Levels) : Channel → Nat
  | .p1  => l.p1.toNat
  | .p2  => l.p2.toNat
  | .tri => l.tri.toNat
  | .noi => l.noi.toNat
  | .dmc => l.dmc.toNat

/-- `mix_level[ch] <- v`; every caller's `v` fits the register (R301). -/
def Levels.set (l : Levels) (ch : Channel) (v : Nat) : Levels :=
  match ch with
  | .p1  => { l with p1  := BitVec.ofNat 4 v }
  | .p2  => { l with p2  := BitVec.ofNat 4 v }
  | .tri => { l with tri := BitVec.ofNat 4 v }
  | .noi => { l with noi := BitVec.ofNat 4 v }
  | .dmc => { l with dmc := BitVec.ofNat 7 v }

/-- Emit a level event. -/
def State.emit (s : State) (e : LevelEvent) : State := { s with events := s.events ++ [e] }

/-- `SetLevel(ch, v, t)` (R301): a call with the level the register already holds does nothing. -/
def setLevel (ch : Channel) (v : Nat) (t : Time) (s : State) : State :=
  if v = s.levels.get ch then s
  else { s.emit { ch := ch, time := t, delta := (v : Int) - (s.levels.get ch : Int) } with
           levels := s.levels.set ch v }

/-! ## Responses -/

/-- `respond(v)` (spec/00_scope.md R9). -/
def State.respond (s : State) (r : Response) : State := { s with responses := s.responses ++ [r] }

/-! ## The sample store -/

/-- The byte a fetch at this address gets: the loaded byte, or a free one (R76, U2). -/
def sampleByte (s : State) (a : Addr) : Byte :=
  match s.store.read a.toNat with
  | some b => b
  | none   => Config.freeByte s.draws

/-- What a fetch leaves behind: its record (spec/00_scope.md R7 d), and one more free byte drawn when the address was
not loaded. -/
def noteFetch (t : Time) (a : Addr) (s : State) : State :=
  { s with
    fetches := s.fetches ++ [{ time := t, addr := a }]
    draws   := if (s.store.read a.toNat).isNone then s.draws + 1 else s.draws }

/-! ## The timer scheme of R200, R239, R258, R280

A timer counts master cycles to the next fire. Held at 0 on entry, a fire is already due and is stamped `now`; reaching
0 in this cycle, it fires stamped `now + 1`. `fire t` is the generator's fire at time `t` followed by the reload. -/

/-- Count a timer down by one master cycle. -/
def countCycle {n : Nat} (timer : State → BitVec n) (setTimer : State → BitVec n → State)
    (fire : Time → State → State) (now : Time) (s : State) : State :=
  let due     := if timer s = 0 then fire now s else s
  let counted := setTimer due (timer due - 1)
  if timer counted = 0 then fire (now + 1) counted else counted

/-! ## Length counters -/

/-- One slow tick of a length counter with its halt flag (R199, R238, R260). -/
def clockLength (halt : Bool) (length : BitVec 8) : BitVec 8 :=
  if !halt && decide (length ≠ 0) then length - 1 else length

/-! ## RESET -/

/-- RESET (R141): every field of the block to its reset value, `domain` kept, no level event; the sample store, what
the host has still to do and what it has already seen are not state of the block (R20) and stay. -/
def resetBlock (s : State) : State :=
  { State.afterReset s.domain with
    store     := s.store
    draws     := s.draws
    pending   := s.pending
    responses := s.responses
    events    := s.events
    fetches   := s.fetches }

end Sys2Proof.Machine
end

