-- ==== Sys2Proof/Machine/Dmc.lean ====
section
/-! DEFINITION. The sample-playback unit (spec/45_dpcm.md R270 to R285): its operations, and the meanings of
`WR.DMC.0` to `WR.DMC.3`. -/

namespace Sys2Proof.Machine

/-! ## Register writes -/

/-- Sub-register 0 (R271): the table entry of the present clock domain is latched; `irq` is cleared when bit 7 is 0. -/
def Dmc.write0 (d : Domain) (g : Dmc) (data : Byte) : Dmc :=
  { g with irqEn := flagBit data 7, loop := flagBit data 6, period := dmcPeriod d (periodIndexOf data),
           irq := g.irq && flagBit data 7 }

/-- Sub-register 1, the unit's own part (R272). -/
def Dmc.write1 (g : Dmc) (data : Byte) : Dmc := { g with delta := deltaOf data }

/-- Sub-register 2 (R273). -/
def Dmc.write2 (g : Dmc) (data : Byte) : Dmc := { g with addrReg := data }

/-- Sub-register 3 (R274). -/
def Dmc.write3 (g : Dmc) (data : Byte) : Dmc := { g with lenReg := data }

/-! ## Start/stop control -/

/-- Reload: start or restart of the sample (R278). -/
def Dmc.reload (g : Dmc) : Dmc := { g with curAddr := sampleCursor g.addrReg, bytes := sampleLength g.lenReg }

/-- Enable control (R275): a start only when nothing is left to fetch, a stop otherwise; `irq` is cleared always. -/
def Dmc.enable (g : Dmc) (b : Bool) : Dmc :=
  let g' := if b then (if g.bytes = 0 then g.reload else g) else { g with bytes := 0 }
  { g' with irq := false }

/-! ## Reader and output unit -/

/-- The reader fetches at this fire: buffer empty, bytes left (R281). -/
def Dmc.wantsByte (g : Dmc) : Bool := !g.filled && decide (g.bytes ≠ 0)

/-- What follows the last byte: `loop` wins over `irq_en` (R281). -/
def Dmc.sampleEnd (g : Dmc) : Dmc :=
  if g.loop then g.reload else { g with irq := g.irq || g.irqEn }

/-- The unit after the reader took byte `b` (R281): the cursor wraps from 0x7FFF to 0. -/
def Dmc.takeByte (g : Dmc) (b : Byte) : Dmc :=
  let g' := { g with buffer := b, curAddr := g.curAddr + 1, bytes := g.bytes - 1, filled := true }
  if g'.bytes = 0 then g'.sampleEnd else g'

/-- Reader at a fire at time `t` (R281). -/
def dmcReader (t : Time) (s : State) : State :=
  if s.dmc.wantsByte then
    let a := sampleAddr s.dmc.curAddr
    { noteFetch t a s with dmc := s.dmc.takeByte (sampleByte s a) }
  else s

/-- The start of an output cycle (R282). -/
def Dmc.startOutput (g : Dmc) : Dmc :=
  if g.bitDiv = 0 then
    if g.filled then { g with bitDiv := 8, shift := g.buffer, filled := false, silence := false }
    else { g with bitDiv := 8, silence := true }
  else g

/-- The delta counter after one output bit (R282): a step that would leave 0..127 is dropped. -/
def Dmc.nextDelta (g : Dmc) : BitVec 7 :=
  if g.silence then g.delta
  else if g.shift.getLsbD 0 then (if g.delta.toNat < 126 then g.delta + 2 else g.delta)
  else if 1 < g.delta.toNat then g.delta - 2 else g.delta

/-- The unit after one output bit (R282). -/
def Dmc.outputBit (g : Dmc) : Dmc :=
  let g' := g.startOutput
  { g' with delta := g'.nextDelta, shift := g'.shift >>> 1, bitDiv := g'.bitDiv - 1 }

/-- Output unit at a fire at time `t` (R282). -/
def dmcOutput (t : Time) (s : State) : State :=
  let g := s.dmc.outputBit
  setLevel .dmc g.delta.toNat t { s with dmc := g }

/-- Fire at time `t`: reader, then output unit (R283). -/
def fireDmc (t : Time) (s : State) : State := dmcOutput t (dmcReader t s)

/-- Fire, then reload the timer with the latched period (R280). -/
def fireDmcReload (t : Time) (s : State) : State :=
  let s' := fireDmc t s
  { s' with dmc := { s'.dmc with timer := s'.dmc.period } }

/-- One master cycle of the period timer, which runs always (R280). -/
def dmcCycle (now : Time) (s : State) : State :=
  countCycle (fun s => s.dmc.timer) (fun s n => { s with dmc := { s.dmc with timer := n } }) fireDmcReload now s

/-- `getPeriod`: the latched table value (R284). -/
def Dmc.getPeriod (g : Dmc) : BitVec 16 := g.period.setWidth 16

/-! ## Meanings -/

/-- `WR.DMC.0` (R271). -/
def execWrDmcR0 (data : Byte) (s : State) : Host.Outcome State Fault Refusal :=
  .next { s with dmc := s.dmc.write0 s.domain data }

/-- `WR.DMC.1` (R272): the one register write that changes an output level at once. -/
def execWrDmcR1 (data : Byte) (s : State) : Host.Outcome State Fault Refusal :=
  .next (setLevel .dmc (s.dmc.write1 data).delta.toNat s.frameTime { s with dmc := s.dmc.write1 data })

/-- `WR.DMC.2` (R273). -/
def execWrDmcR2 (data : Byte) (s : State) : Host.Outcome State Fault Refusal :=
  .next { s with dmc := s.dmc.write2 data }

/-- `WR.DMC.3` (R274). -/
def execWrDmcR3 (data : Byte) (s : State) : Host.Outcome State Fault Refusal :=
  .next { s with dmc := s.dmc.write3 data }

end Sys2Proof.Machine
end

