-- ==== Sys2Proof/Machine/Mixer.lean ====
section
/-! DEFINITION. The outputs of the mixing accumulator that are computed from its registers (spec/46_mixer.md R302 to
R305): the per-channel event streams, the pin sums, the analogue output and the informative frequencies, in exact
rational arithmetic. No command reads any of them. -/

namespace Sys2Proof.Machine

/-- The level events of one channel, in emission order: the normative content of the stream (R302 c). -/
def eventsOf (ch : Channel) (events : List LevelEvent) : List LevelEvent :=
  events.filter (fun e => decide (e.ch = ch))

/-- The sum of the changes of one channel (R302 b). -/
def deltaSum (ch : Channel) (events : List LevelEvent) : Int :=
  ((eventsOf ch events).map LevelEvent.delta).sum

/-- `pin1`, the sum of the two pulse levels, 0 to 30 (R303). -/
def State.pin1 (s : State) : Nat := s.levels.p1.toNat + s.levels.p2.toNat

/-- `pin2`, the triple of the other three levels (R303). -/
def State.pin2 (s : State) : Nat × Nat × Nat := (s.levels.tri.toNat, s.levels.noi.toNat, s.levels.dmc.toNat)

/-- `out = DAC1(pin1) + DAC2(pin2)` under the transfers of a configuration (R304). -/
def State.outWith (c : Config) (s : State) : Rat :=
  c.dac1 s.pin1 + c.dac2 s.pin2.1 s.pin2.2.1 s.pin2.2.2

/-- The output under the default transfers (R304). Log entry 10. -/
def State.out (s : State) : Rat := s.outWith chip

/-- The tone frequency of a pulse in hertz, informative: `CLOCK_HZ / (16 * (period + 1))` (R154, R305). -/
def Pulse.frequency (d : Domain) (g : Pulse) : Rat :=
  ((chip.params d).clockHz : Rat) / (16 * ((g.period.toNat : Rat) + 1))

/-- The tone frequency of the triangle, informative (R305). -/
def Triangle.frequency (d : Domain) (g : Triangle) : Rat :=
  ((chip.params d).clockHz : Rat) / (32 * ((g.period.toNat : Rat) + 1))

/-- Fires per second of the noise generator, informative (R305). -/
def Noise.frequency (d : Domain) (g : Noise) : Rat :=
  ((chip.params d).clockHz : Rat) / (g.period.toNat : Rat)

/-- Fires per second of the sample unit, informative (R305). -/
def Dmc.frequency (d : Domain) (g : Dmc) : Rat :=
  ((chip.params d).clockHz : Rat) / (g.period.toNat : Rat)

end Sys2Proof.Machine
end

