-- ==== Sys2Proof/Machine/Envelope.lean ====
section
/-! DEFINITION. The envelope that P1, P2 and NOI share (spec/42_pulse.md R191, R197; spec/44_noise.md R251, R257). -/

namespace Sys2Proof.Machine

/-- The envelope part of a sub-register 0 write (R191, R205, R251): divider and level are not touched. -/
def Envelope.write (e : Envelope) (data : Byte) : Envelope :=
  { e with loop := flagBit data 5, const := flagBit data 4, vol := volOf data }

/-- A sub-register 3 write sets the level to 15 at once and leaves the divider (R194, R208, R254). -/
def Envelope.restart (e : Envelope) : Envelope := { e with level := 15 }

/-- The level after one envelope step: it wraps from 0 to 15 when looping, else stops at 0 (R197). -/
def Envelope.decay (e : Envelope) : BitVec 4 :=
  if e.loop then e.level - 1
  else if e.level ≠ 0 then e.level - 1
  else e.level

/-- One fast tick (R197, R257). -/
def Envelope.clock (e : Envelope) : Envelope :=
  if e.div = 0 then { e with div := e.vol, level := if e.const then e.level else e.decay }
  else { e with div := e.div - 1 }

/-- The volume presented at a fire (R201, R259). -/
def Envelope.output (e : Envelope) : BitVec 4 := if e.const then e.vol else e.level

end Sys2Proof.Machine
end

