-- ==== Sys2Proof/Machine/Noise.lean ====
section
/-! DEFINITION. The noise generator (spec/44_noise.md R250 to R262): its operations, and the meanings of `WR.NOI.0` to
`WR.NOI.3`. -/

namespace Sys2Proof.Machine

/-! ## Register writes -/

/-- Sub-register 0 (R251). -/
def Noise.write0 (g : Noise) (data : Byte) : Noise := { g with env := g.env.write data }

/-- Sub-register 2 (R253): the table entry of the present clock domain is latched. -/
def Noise.write2 (d : Domain) (g : Noise) (data : Byte) : Noise :=
  { g with mode := flagBit data 7, period := noisePeriod d (periodIndexOf data) }

/-- Sub-register 3 (R254): `enabled` is set only when `ctrl` = 1. -/
def Noise.write3 (g : Noise) (data : Byte) : Noise :=
  { g with length := lengthLoad data, env := g.env.restart, enabled := g.enabled || g.ctrl }

/-! ## Enable control and modulation units -/

/-- Enable control (R255). -/
def Noise.enable (g : Noise) (b : Bool) : Noise := { g with ctrl := b, enabled := g.enabled && b }

/-- One fast tick (R257). -/
def Noise.clockEnvelope (g : Noise) : Noise := { g with env := g.env.clock }

/-- One slow tick of the length counter (R260). -/
def Noise.clockLen (g : Noise) : Noise := { g with length := clockLength g.env.loop g.length }

/-! ## Timer, shift register, output -/

/-- The feedback bit: bit 0 xor the tap, bit 6 in mode 1, bit 1 in mode 0 (R259). -/
def lfsrFeedback (mode : Bool) (r : BitVec 15) : Bool :=
  r.getLsbD 0 != (if mode then r.getLsbD 6 else r.getLsbD 1)

/-- One shift of the register (R259). -/
def lfsrNext (mode : Bool) (r : BitVec 15) : BitVec 15 :=
  (r >>> 1) ||| ((BitVec.ofBool (lfsrFeedback mode r)).setWidth 15 <<< 14)

/-- The level presented at a fire: the volume when bit 0 is 1, before the shift (R259). -/
def Noise.output (g : Noise) : Nat :=
  if g.enabled && decide (g.length ≠ 0) && g.lfsr.getLsbD 0 then g.env.output.toNat else 0

/-- Fire at time `t` (R259). -/
def fireNoise (t : Time) (s : State) : State :=
  { setLevel .noi s.noi.output t s with noi := { s.noi with lfsr := lfsrNext s.noi.mode s.noi.lfsr } }

/-- Fire, then reload the timer with the latched period (R258). -/
def fireNoiseReload (t : Time) (s : State) : State :=
  let s' := fireNoise t s
  { s' with noi := { s'.noi with timer := s'.noi.period } }

/-- One master cycle of the period timer, which runs always (R258). -/
def noiseCycle (now : Time) (s : State) : State :=
  countCycle (fun s => s.noi.timer) (fun s n => { s with noi := { s.noi with timer := n } }) fireNoiseReload now s

/-- `getPeriod`: the latched table value (R261). -/
def Noise.getPeriod (g : Noise) : BitVec 16 := g.period.setWidth 16

/-! ## Meanings -/

/-- `WR.NOI.0` (R251). -/
def execWrNoiR0 (data : Byte) (s : State) : Host.Outcome State Fault Refusal :=
  .next { s with noi := s.noi.write0 data }

/-- `WR.NOI.1` (R252): dispatched, and changes nothing. -/
def execWrNoiR1 (_data : Byte) (s : State) : Host.Outcome State Fault Refusal :=
  .next s

/-- `WR.NOI.2` (R253). -/
def execWrNoiR2 (data : Byte) (s : State) : Host.Outcome State Fault Refusal :=
  .next { s with noi := s.noi.write2 s.domain data }

/-- `WR.NOI.3` (R254). -/
def execWrNoiR3 (data : Byte) (s : State) : Host.Outcome State Fault Refusal :=
  .next { s with noi := s.noi.write3 data }

end Sys2Proof.Machine
end

