-- ==== Sys2Proof/Machine/Pulse.lean ====
section
/-! DEFINITION. The two pulse generators (spec/42_pulse.md R190 to R202, R205 to R208): their operations, and the
meanings of `WR.P1.0` to `WR.P1.3` and `WR.P2.0` to `WR.P2.3`. -/

namespace Sys2Proof.Machine

/-! ## Register writes -/

/-- Sub-register 0 (R191, R205). -/
def Pulse.write0 (g : Pulse) (data : Byte) : Pulse :=
  { g with duty := dutyOf data, env := g.env.write data }

/-- Sub-register 1 (R192, R206). -/
def Pulse.write1 (g : Pulse) (data : Byte) : Pulse :=
  { g with swEn := flagBit data 7, swPeriod := swPeriodOf data, swNeg := flagBit data 3, swShift := swShiftOf data,
           swWritten := true }

/-- Sub-register 2 (R193, R207). -/
def Pulse.write2 (g : Pulse) (data : Byte) : Pulse :=
  { g with period := withPeriodLow g.period data }

/-- Sub-register 3 (R194, R208): `enabled` is set only when `ctrl` = 1. -/
def Pulse.write3 (g : Pulse) (data : Byte) : Pulse :=
  { g with period := withPeriodHigh g.period data, length := lengthLoad data, dutyStep := 0,
           env := g.env.restart, enabled := g.enabled || g.ctrl }

/-! ## Enable control and modulation units -/

/-- Enable control (R195). -/
def Pulse.enable (g : Pulse) (b : Bool) : Pulse := { g with ctrl := b, enabled := g.enabled && b }

/-- The constant `diff`: 1 for P1, 0 for P2 (R190). -/
def PulseId.diff : PulseId → Int
  | .p1 => 1
  | .p2 => 0

/-- The sweep target of the present period (R198). -/
def Pulse.sweepTarget (diff : Int) (g : Pulse) : Int :=
  let d : Int := (g.period >>> g.swShift).toNat
  if g.swNeg then (g.period.toNat : Int) - d - diff else (g.period.toNat : Int) + d

/-- The test for a period update at a slow tick, on a target `r` (R198). -/
def Pulse.sweepUpdates (g : Pulse) (r : Int) : Bool :=
  g.swEn && decide (7 < g.period.toNat) && decide (r < 0x800) && decide (g.swShift ≠ 0)

/-- The divider and the period at a slow tick whose target is `r` (R198). -/
def Pulse.sweepDivide (g : Pulse) (r : Int) : Pulse :=
  if g.swDiv = 0 then
    { g with swDiv := g.swPeriod, period := if g.sweepUpdates r then BitVec.ofInt periodBits r else g.period }
  else { g with swDiv := g.swDiv - 1 }

/-- After the update test, a sub-register 1 write since the last slow tick reloads the divider (R198). -/
def Pulse.sweepReload (g : Pulse) : Pulse :=
  if g.swWritten then { g with swWritten := false, swDiv := g.swPeriod } else g

/-- One slow tick of the sweep unit (R198). -/
def Pulse.sweep (diff : Int) (g : Pulse) : Pulse :=
  let r := g.sweepTarget diff
  (({ g with swResult := r } : Pulse).sweepDivide r).sweepReload

/-- One fast tick (R197). -/
def Pulse.clockEnvelope (g : Pulse) : Pulse := { g with env := g.env.clock }

/-- One slow tick of the length counter (R199). -/
def Pulse.clockLen (g : Pulse) : Pulse := { g with length := clockLength g.env.loop g.length }

/-! ## Timer, duty sequencer, output -/

/-- Not muted (R201). -/
def Pulse.valid (g : Pulse) : Bool :=
  decide (7 < g.period.toNat) && g.enabled && decide (g.length ≠ 0) && decide (g.swResult < 0x800)

/-- The level presented at a fire (R201). -/
def Pulse.output (g : Pulse) : Nat :=
  if g.valid && dutyBit g.duty g.dutyStep then g.env.output.toNat else 0

/-- Fire at time `t` (R201). -/
def firePulse (p : PulseId) (t : Time) (s : State) : State :=
  let g := s.pulse p
  (setLevel p.channel g.output t s).setPulse p { g with dutyStep := g.dutyStep + 1 }

/-- Fire, then reload the timer with `period + 1` (R200). -/
def firePulseReload (p : PulseId) (t : Time) (s : State) : State :=
  let s' := firePulse p t s
  s'.setPulse p { s'.pulse p with timer := periodReload (s'.pulse p).period }

/-- One master cycle of the period timer, `now` the frame time at its start (R200): frozen while the period is 0. -/
def pulseCycle (p : PulseId) (now : Time) (s : State) : State :=
  if (s.pulse p).period = 0 then s
  else countCycle (fun s => (s.pulse p).timer) (fun s n => s.setPulse p { s.pulse p with timer := n })
    (firePulseReload p) now s

/-- `getPeriod` (R202). -/
def Pulse.getPeriod (g : Pulse) : BitVec 16 := g.period.setWidth 16

/-! ## Meanings -/

/-- `WR.P1.0` (R191). -/
def execWrP1R0 (data : Byte) (s : State) : Host.Outcome State Fault Refusal :=
  .next (s.setPulse .p1 ((s.pulse .p1).write0 data))

/-- `WR.P1.1` (R192). -/
def execWrP1R1 (data : Byte) (s : State) : Host.Outcome State Fault Refusal :=
  .next (s.setPulse .p1 ((s.pulse .p1).write1 data))

/-- `WR.P1.2` (R193). -/
def execWrP1R2 (data : Byte) (s : State) : Host.Outcome State Fault Refusal :=
  .next (s.setPulse .p1 ((s.pulse .p1).write2 data))

/-- `WR.P1.3` (R194). -/
def execWrP1R3 (data : Byte) (s : State) : Host.Outcome State Fault Refusal :=
  .next (s.setPulse .p1 ((s.pulse .p1).write3 data))

/-- `WR.P2.0` (R205). -/
def execWrP2R0 (data : Byte) (s : State) : Host.Outcome State Fault Refusal :=
  .next (s.setPulse .p2 ((s.pulse .p2).write0 data))

/-- `WR.P2.1` (R206). -/
def execWrP2R1 (data : Byte) (s : State) : Host.Outcome State Fault Refusal :=
  .next (s.setPulse .p2 ((s.pulse .p2).write1 data))

/-- `WR.P2.2` (R207). -/
def execWrP2R2 (data : Byte) (s : State) : Host.Outcome State Fault Refusal :=
  .next (s.setPulse .p2 ((s.pulse .p2).write2 data))

/-- `WR.P2.3` (R208). -/
def execWrP2R3 (data : Byte) (s : State) : Host.Outcome State Fault Refusal :=
  .next (s.setPulse .p2 ((s.pulse .p2).write3 data))

end Sys2Proof.Machine
end

