-- ==== Sys2Proof/Machine/Triangle.lean ====
section
/-! DEFINITION. The triangle generator (spec/43_triangle.md R230 to R242): its operations, and the meanings of
`WR.TRI.0` to `WR.TRI.3`. -/

namespace Sys2Proof.Machine

/-! ## Register writes -/

/-- Sub-register 0 (R231). -/
def Triangle.write0 (g : Triangle) (data : Byte) : Triangle :=
  { g with triLoop := flagBit data 7, linReload := linReloadOf data }

/-- Sub-register 2 (R233). -/
def Triangle.write2 (g : Triangle) (data : Byte) : Triangle :=
  { g with period := withPeriodLow g.period data }

/-- Sub-register 3 (R234): `enabled` is set only when `ctrl` = 1. -/
def Triangle.write3 (g : Triangle) (data : Byte) : Triangle :=
  { g with period := withPeriodHigh g.period data, length := lengthLoad data, halt := true,
           enabled := g.enabled || g.ctrl }

/-! ## Enable control and modulation units -/

/-- Enable control (R235). -/
def Triangle.enable (g : Triangle) (b : Bool) : Triangle := { g with ctrl := b, enabled := g.enabled && b }

/-- The linear counter after one fast tick (R237). -/
def Triangle.nextLinear (g : Triangle) : BitVec 7 :=
  if g.halt then g.linReload
  else if g.linCounter ≠ 0 then g.linCounter - 1
  else g.linCounter

/-- One fast tick (R237): `halt` is cleared when `tri_loop` = 0. -/
def Triangle.clockLinear (g : Triangle) : Triangle :=
  { g with linCounter := g.nextLinear, halt := g.halt && g.triLoop }

/-- One slow tick of the length counter (R238). -/
def Triangle.clockLen (g : Triangle) : Triangle := { g with length := clockLength g.triLoop g.length }

/-! ## Timer, sequencer, output -/

/-- Both gates open and enabled (R239, R242). -/
def Triangle.running (g : Triangle) : Bool :=
  decide (g.linCounter ≠ 0) && decide (g.length ≠ 0) && g.enabled

/-- Fire at time `t` (R240): the level is that of the step before the increment. -/
def fireTri (t : Time) (s : State) : State :=
  { setLevel .tri (triLevel s.tri.step).toNat t s with tri := { s.tri with step := s.tri.step + 1 } }

/-- Fire, then reload the timer with `period + 1` (R239). -/
def fireTriReload (t : Time) (s : State) : State :=
  let s' := fireTri t s
  { s' with tri := { s'.tri with timer := periodReload s'.tri.period } }

/-- The ultrasonic case, periods 0 and 1 (R239): parked at step 7, level `TRI_TABLE[7]`. -/
def triUltrasonic (now : Time) (s : State) : State :=
  { setLevel .tri (triLevel 7).toNat (now + 1) s with tri := { s.tri with step := 7 } }

/-- One master cycle of the period timer (R239): frozen while inactive. -/
def triCycle (now : Time) (s : State) : State :=
  if !s.tri.running then s
  else if s.tri.period.toNat ≤ 1 then triUltrasonic now s
  else countCycle (fun s => s.tri.timer) (fun s n => { s with tri := { s.tri with timer := n } }) fireTriReload now s

/-- `getPeriod` (R241). -/
def Triangle.getPeriod (g : Triangle) : BitVec 16 := g.period.setWidth 16

/-! ## Meanings -/

/-- `WR.TRI.0` (R231). -/
def execWrTriR0 (data : Byte) (s : State) : Host.Outcome State Fault Refusal :=
  .next { s with tri := s.tri.write0 data }

/-- `WR.TRI.1` (R232): dispatched, and changes nothing. -/
def execWrTriR1 (_data : Byte) (s : State) : Host.Outcome State Fault Refusal :=
  .next s

/-- `WR.TRI.2` (R233). -/
def execWrTriR2 (data : Byte) (s : State) : Host.Outcome State Fault Refusal :=
  .next { s with tri := s.tri.write2 data }

/-- `WR.TRI.3` (R234). -/
def execWrTriR3 (data : Byte) (s : State) : Host.Outcome State Fault Refusal :=
  .next { s with tri := s.tri.write3 data }

end Sys2Proof.Machine
end

