-- ==== Sys2Proof/Machine/Sequencer.lean ====
section
/-! DEFINITION. The frame sequencer (spec/41_frame_sequencer.md R170 to R178): the three ticks, the firing pattern, the
sequencer step, the divider, and the meaning of `WR.MODE`. -/

namespace Sys2Proof.Machine

/-! ## Ticks -/

/-- TICK.FAST (R174): envelopes, then the linear counter. -/
def tickFast (s : State) : State :=
  { s with p1 := s.p1.clockEnvelope, p2 := s.p2.clockEnvelope, noi := s.noi.clockEnvelope, tri := s.tri.clockLinear }

/-- TICK.SLOW (R175): sweeps, then length counters. -/
def tickSlow (s : State) : State :=
  { s with
    p1  := (s.p1.sweep PulseId.p1.diff).clockLen
    p2  := (s.p2.sweep PulseId.p2.diff).clockLen
    tri := s.tri.clockLen
    noi := s.noi.clockLen }

/-- TICK.RSVD (R176): no state changes. -/
def tickReserved (s : State) : State := s

/-- Which ticks fire, and in which order, as three flags: fast, then slow, then reserved. -/
def runTicks (fast slow reserved : Bool) (s : State) : State :=
  let s1 := if fast then tickFast s else s
  let s2 := if slow then tickSlow s1 else s1
  if reserved then tickReserved s2 else s2

/-! ## The sequencer step (R173) -/

/-- The index is advanced first, modulo 4 or 5. -/
def nextIndex (mode : SeqMode) (index : BitVec 3) : BitVec 3 :=
  match mode with
  | .fourStep => BitVec.ofNat 3 ((index.toNat + 1) % 4)
  | .fiveStep => BitVec.ofNat 3 ((index.toNat + 1) % 5)

/-- The pattern fires a fast tick. -/
def firesFast (mode : SeqMode) (index : BitVec 3) : Bool :=
  match mode with
  | .fourStep => decide (index.toNat ≤ 3)
  | .fiveStep => decide (index.toNat ≤ 3)

/-- The pattern fires a slow tick. -/
def firesSlow (mode : SeqMode) (index : BitVec 3) : Bool :=
  match mode with
  | .fourStep => decide (index = 1) || decide (index = 3)
  | .fiveStep => decide (index = 0) || decide (index = 2)

/-- The pattern fires a reserved tick. -/
def firesReserved (mode : SeqMode) (index : BitVec 3) : Bool :=
  match mode with
  | .fourStep => decide (index = 3)
  | .fiveStep => false

/-- SEQ.STEP (R173): advance the index, then fire the pattern of the new index. -/
def seqStep (s : State) : State :=
  let index := nextIndex s.seqMode s.seqIndex
  runTicks (firesFast s.seqMode index) (firesSlow s.seqMode index) (firesReserved s.seqMode index)
    { s with seqIndex := index }

/-- The divider at the end of a master cycle (R149, R172): at 0 it is reloaded and a sequencer step is taken. -/
def clockSequencer (s : State) : State :=
  let s' := { s with seqDiv := s.seqDiv - 1 }
  if s'.seqDiv = 0 then seqStep { s' with seqDiv := seqPeriod s'.domain } else s'

/-! ## Meaning -/

/-- `WR.MODE` (R171): index to 0; bit 7 set also fires one whole pass; the divider is not touched. -/
def execWrMode (data : Byte) (s : State) : Host.Outcome State Fault Refusal :=
  if flagBit data 7 then .next (runTicks true true true { s with seqIndex := 0, seqMode := .fiveStep })
  else .next { s with seqIndex := 0, seqMode := .fourStep }

end Sys2Proof.Machine
end

