-- ==== Sys2Proof/Machine/Commands.lean ====
section
/-! DEFINITION. The host commands (spec/40_host_commands.md R140 to R157): CYCLE and ADVANCE, the writes to STATUS and to
addresses that select nothing, READ, RESET, ENDFRAME, SETCLK and GETPERIOD. -/

namespace Sys2Proof.Machine

/-! ## The generator interface (R155) -/

/-- One master cycle of one generator, `now` the frame time at its start (`process(1)`). -/
def genCycle : Channel → Time → State → State
  | .p1  => pulseCycle .p1
  | .p2  => pulseCycle .p2
  | .tri => triCycle
  | .noi => noiseCycle
  | .dmc => dmcCycle

/-- `getPeriod(ch)` (R154). -/
def getPeriod (ch : Channel) (s : State) : BitVec 16 :=
  match ch with
  | .p1  => s.p1.getPeriod
  | .p2  => s.p2.getPeriod
  | .tri => s.tri.getPeriod
  | .noi => s.noi.getPeriod
  | .dmc => s.dmc.getPeriod

/-! ## ADVANCE -/

/-- The five generator steps of a cycle, in order (R149). -/
def generatorsCycle (now : Time) (s : State) : State :=
  genCycle .dmc now (genCycle .noi now (genCycle .tri now (genCycle .p2 now (genCycle .p1 now s))))

/-- CYCLE (R149): the generators, then `frame_time` + 1 modulo 2^32, then the sequencer divider. -/
def cycle (s : State) : State :=
  let s' := generatorsCycle s.frameTime s
  clockSequencer { s' with frameTime := s'.frameTime + 1 }

/-- `repeat n times: CYCLE` (R148). -/
def advance : Nat → State → State
  | 0,     s => s
  | n + 1, s => advance n (cycle s)

/-! ## Meanings -/

/-- `ADV` (R148). -/
def execAdv (cycles : Cycles) (s : State) : Host.Outcome State Fault Refusal :=
  .next (advance cycles.toNat s)

/-- `WR.STATUS` (R143): bits 0 to 4 to the five enable controls. -/
def execWrStatus (data : Byte) (s : State) : Host.Outcome State Fault Refusal :=
  .next { s with
    p1  := s.p1.enable (flagBit data 0)
    p2  := s.p2.enable (flagBit data 1)
    tri := s.tri.enable (flagBit data 2)
    noi := s.noi.enable (flagBit data 3)
    dmc := s.dmc.enable (flagBit data 4) }

/-- `RD.STATUS` (R146): the status byte, mapped; no side effect. -/
def execRdStatus (s : State) : Host.Outcome State Fault Refusal :=
  .next (s.respond (.read (statusByte s) true))

/-- `RD.UNMAPPED` (R147): 0, unmapped. -/
def execRdUnmapped (_addr : Addr) (s : State) : Host.Outcome State Fault Refusal :=
  .next (s.respond (.read 0 false))

/-- `RST` (R141). -/
def execRst (s : State) : Host.Outcome State Fault Refusal :=
  .next (resetBlock s)

/-- `EOF`, ENDFRAME (R152). -/
def execEof (s : State) : Host.Outcome State Fault Refusal :=
  .next { s with frameTime := 0 }

/-- `CLK`, SETCLK (R153): `domain` only. -/
def execClk (domain : Domain) (s : State) : Host.Outcome State Fault Refusal :=
  .next { s with domain := domain }

/-- `GETP.P1` (R154). -/
def execGetpP1 (s : State) : Host.Outcome State Fault Refusal :=
  .next (s.respond (.period (getPeriod .p1 s)))

/-- `GETP.P2` (R154). -/
def execGetpP2 (s : State) : Host.Outcome State Fault Refusal :=
  .next (s.respond (.period (getPeriod .p2 s)))

/-- `GETP.TRI` (R154). -/
def execGetpTri (s : State) : Host.Outcome State Fault Refusal :=
  .next (s.respond (.period (getPeriod .tri s)))

/-- `GETP.NOI` (R154). -/
def execGetpNoi (s : State) : Host.Outcome State Fault Refusal :=
  .next (s.respond (.period (getPeriod .noi s)))

/-- `GETP.DMC` (R154). -/
def execGetpDmc (s : State) : Host.Outcome State Fault Refusal :=
  .next (s.respond (.period (getPeriod .dmc s)))

/-! ## Writes that select nothing (R145): the write is dropped and recorded nowhere -/

/-- `WR.X14` (R145). -/
def execWrX14 (_data : Byte) (s : State) : Host.Outcome State Fault Refusal :=
  .next s

/-- `WR.X16` (R145). -/
def execWrX16 (_data : Byte) (s : State) : Host.Outcome State Fault Refusal :=
  .next s

/-- `WR.X18` (R145). -/
def execWrX18 (_data : Byte) (s : State) : Host.Outcome State Fault Refusal :=
  .next s

/-- `WR.X19` (R145). -/
def execWrX19 (_data : Byte) (s : State) : Host.Outcome State Fault Refusal :=
  .next s

/-- `WR.X1A` (R145). -/
def execWrX1A (_data : Byte) (s : State) : Host.Outcome State Fault Refusal :=
  .next s

/-- `WR.X1B` (R145). -/
def execWrX1B (_data : Byte) (s : State) : Host.Outcome State Fault Refusal :=
  .next s

/-- `WR.X1C` (R145). -/
def execWrX1C (_data : Byte) (s : State) : Host.Outcome State Fault Refusal :=
  .next s

/-- `WR.X1D` (R145). -/
def execWrX1D (_data : Byte) (s : State) : Host.Outcome State Fault Refusal :=
  .next s

/-- `WR.X1E` (R145). -/
def execWrX1E (_data : Byte) (s : State) : Host.Outcome State Fault Refusal :=
  .next s

/-- `WR.X1F` (R145). -/
def execWrX1F (_data : Byte) (s : State) : Host.Outcome State Fault Refusal :=
  .next s

/-- `WR.OUT` (R142, R145). -/
def execWrOut (_addr : Addr) (_data : Byte) (s : State) : Host.Outcome State Fault Refusal :=
  .next s

end Sys2Proof.Machine
end

