-- ==== Sys2Proof/Machine/Dispatch.lean ====
section
/-! DEFINITION. One arm per command (spec/40_host_commands.md R140). -/

namespace Sys2Proof.Machine

def exec (i : Instr) (s : State) : Host.Outcome State Fault Refusal :=
  match i with
  | .wrP1R0 d => Sys2Proof.Machine.execWrP1R0 d s
  | .wrP1R1 d => Sys2Proof.Machine.execWrP1R1 d s
  | .wrP1R2 d => Sys2Proof.Machine.execWrP1R2 d s
  | .wrP1R3 d => Sys2Proof.Machine.execWrP1R3 d s
  | .wrP2R0 d => Sys2Proof.Machine.execWrP2R0 d s
  | .wrP2R1 d => Sys2Proof.Machine.execWrP2R1 d s
  | .wrP2R2 d => Sys2Proof.Machine.execWrP2R2 d s
  | .wrP2R3 d => Sys2Proof.Machine.execWrP2R3 d s
  | .wrTriR0 d => Sys2Proof.Machine.execWrTriR0 d s
  | .wrTriR1 d => Sys2Proof.Machine.execWrTriR1 d s
  | .wrTriR2 d => Sys2Proof.Machine.execWrTriR2 d s
  | .wrTriR3 d => Sys2Proof.Machine.execWrTriR3 d s
  | .wrNoiR0 d => Sys2Proof.Machine.execWrNoiR0 d s
  | .wrNoiR1 d => Sys2Proof.Machine.execWrNoiR1 d s
  | .wrNoiR2 d => Sys2Proof.Machine.execWrNoiR2 d s
  | .wrNoiR3 d => Sys2Proof.Machine.execWrNoiR3 d s
  | .wrDmcR0 d => Sys2Proof.Machine.execWrDmcR0 d s
  | .wrDmcR1 d => Sys2Proof.Machine.execWrDmcR1 d s
  | .wrDmcR2 d => Sys2Proof.Machine.execWrDmcR2 d s
  | .wrDmcR3 d => Sys2Proof.Machine.execWrDmcR3 d s
  | .wrX14 d => Sys2Proof.Machine.execWrX14 d s
  | .wrX16 d => Sys2Proof.Machine.execWrX16 d s
  | .wrX18 d => Sys2Proof.Machine.execWrX18 d s
  | .wrX19 d => Sys2Proof.Machine.execWrX19 d s
  | .wrX1A d => Sys2Proof.Machine.execWrX1A d s
  | .wrX1B d => Sys2Proof.Machine.execWrX1B d s
  | .wrX1C d => Sys2Proof.Machine.execWrX1C d s
  | .wrX1D d => Sys2Proof.Machine.execWrX1D d s
  | .wrX1E d => Sys2Proof.Machine.execWrX1E d s
  | .wrX1F d => Sys2Proof.Machine.execWrX1F d s
  | .wrStatus d => Sys2Proof.Machine.execWrStatus d s
  | .wrMode d => Sys2Proof.Machine.execWrMode d s
  | .wrOut a d => Sys2Proof.Machine.execWrOut a d s
  | .rdStatus => Sys2Proof.Machine.execRdStatus s
  | .rdUnmapped a => Sys2Proof.Machine.execRdUnmapped a s
  | .adv n => Sys2Proof.Machine.execAdv n s
  | .rst => Sys2Proof.Machine.execRst s
  | .eof => Sys2Proof.Machine.execEof s
  | .clk d => Sys2Proof.Machine.execClk d s
  | .getpP1 => Sys2Proof.Machine.execGetpP1 s
  | .getpP2 => Sys2Proof.Machine.execGetpP2 s
  | .getpTri => Sys2Proof.Machine.execGetpTri s
  | .getpNoi => Sys2Proof.Machine.execGetpNoi s
  | .getpDmc => Sys2Proof.Machine.execGetpDmc s

end Sys2Proof.Machine
end

