-- ==== Sys2Proof/Machine/Host.lean ====
section
/-! DEFINITION. One host action (spec/00_scope.md R6; spec/20_memory.md R77, R86): a command word is decoded and
executed (spec/40_host_commands.md R140), a load or clear acts on the external sample store. -/

namespace Sys2Proof.Machine

/-- Decode a command word and run the command; a reserved word is refused by name (spec/30_encoding.md R107). -/
def runWord (w : Word) (s : State) : Host.Outcome State Fault Refusal :=
  match decode w with
  | .ok i      => exec i s
  | .error why => .refused (.reservedWord why)

/-- `.SMP LOAD`: the host loads the store (R77); a longer load than R77 speaks of is refused. Log entry 7. -/
def runLoad (bytes : List Byte) (s : State) : Host.Outcome State Fault Refusal :=
  if bytes.length ≤ loadMax then .next { s with store := Memory.load bytes } else .refused .loadTooLong

/-- `.SMP CLEAR`: the host clears the store (R77). -/
def runClear (s : State) : Host.Outcome State Fault Refusal :=
  .next { s with store := Memory.clear }

/-- Perform one host action. -/
def runAction (a : HostAction) (s : State) : Host.Outcome State Fault Refusal :=
  match a with
  | .word w     => runWord w s
  | .load bytes => runLoad bytes s
  | .clear      => runClear s

/-- The next action of the host and the state with that action taken off the queue. -/
def nextAction (s : State) : Option (HostAction × State) :=
  match s.pending with
  | []        => none
  | a :: rest => some (a, { s with pending := rest })

end Sys2Proof.Machine
end

