-- ==== Sys2Proof/Machine/Step.lean ====
section
/-! DEFINITION. One step of the machine: the host's next action, run to completion (spec/20_memory.md R86). With no
action pending the block is idle and nothing changes (spec/60_exceptions.md R332). -/

namespace Sys2Proof.Machine

/-- One step. Log entry 4. -/
def step (s : State) : Host.Outcome State Fault Refusal :=
  match nextAction s with
  | none         => .next s
  | some (a, s') => runAction a s'

/-- The state whose next step runs the command word of the `nbits` low bits of `w`: the host has issued it, ahead of
whatever else is pending. Log entry 4. -/
def State.withFetchWord (s : State) (nbits w : Nat) : State :=
  { s with pending := .word (tableWord nbits w) :: s.pending }

end Sys2Proof.Machine
end

