-- ==== Sys2Proof/Machine/Listing.lean ====
section
/-! DEFINITION. The line form of a command and the pseudo-commands (spec/30_encoding.md R125, R128;
spec/92_eei_decisions.md D27). -/

namespace Sys2Proof.Machine

/-! ## Pseudo-commands (R128) -/

/-- `ENA #$mm`. -/
def pseudoEna (mask : Byte) : List Instr := [.wrStatus mask]

/-- `SEQ4`. -/
def pseudoSeq4 : List Instr := [.wrMode 0x00]

/-- `SEQ5`. -/
def pseudoSeq5 : List Instr := [.wrMode 0x80]

/-- `NOP`. -/
def pseudoNop : List Instr := [.adv 0]

/-- The two writes of `PER g,#n,#l`: low eight bits of `n` to sub-register 2, then `(l << 3) | (n >> 8)` to
sub-register 3. -/
def pseudoPer (low high : Byte → Instr) (n : Period) (l : BitVec 5) : List Instr :=
  [low (n.extractLsb' 0 8), high (l ++ n.extractLsb' 8 3)]

/-- `PER P1,#n,#l`. -/
def pseudoPerP1 (n : Period) (l : BitVec 5) : List Instr := pseudoPer .wrP1R2 .wrP1R3 n l

/-- `PER P2,#n,#l`. -/
def pseudoPerP2 (n : Period) (l : BitVec 5) : List Instr := pseudoPer .wrP2R2 .wrP2R3 n l

/-- `PER TRI,#n,#l`. -/
def pseudoPerTri (n : Period) (l : BitVec 5) : List Instr := pseudoPer .wrTriR2 .wrTriR3 n l

/-! ## The line form (R125) -/

/-- One hexadecimal digit. -/
def hexDigit (d : BitVec 4) : Char :=
  if d.toNat < 10 then Char.ofNat (48 + d.toNat) else Char.ofNat (55 + d.toNat)

/-- Two hexadecimal digits. -/
def hexByte (b : Byte) : String := String.ofList [hexDigit (b.extractLsb' 4 4), hexDigit (b.extractLsb' 0 4)]

/-- Four hexadecimal digits. -/
def hexAddr (a : Addr) : String := hexByte (a.extractLsb' 8 8) ++ hexByte (a.extractLsb' 0 8)

/-- `WR $aaaa,#$dd`. -/
def writeLine (addr : String) (d : Byte) : String := "WR $" ++ addr ++ ",#$" ++ hexByte d

/-- The line that is assembled to the word of a command (with the default `WINDOW_BASE`). -/
def lineOf : Instr → String
  | .wrP1R0 d     => writeLine "4000" d
  | .wrP1R1 d     => writeLine "4001" d
  | .wrP1R2 d     => writeLine "4002" d
  | .wrP1R3 d     => writeLine "4003" d
  | .wrP2R0 d     => writeLine "4004" d
  | .wrP2R1 d     => writeLine "4005" d
  | .wrP2R2 d     => writeLine "4006" d
  | .wrP2R3 d     => writeLine "4007" d
  | .wrTriR0 d    => writeLine "4008" d
  | .wrTriR1 d    => writeLine "4009" d
  | .wrTriR2 d    => writeLine "400A" d
  | .wrTriR3 d    => writeLine "400B" d
  | .wrNoiR0 d    => writeLine "400C" d
  | .wrNoiR1 d    => writeLine "400D" d
  | .wrNoiR2 d    => writeLine "400E" d
  | .wrNoiR3 d    => writeLine "400F" d
  | .wrDmcR0 d    => writeLine "4010" d
  | .wrDmcR1 d    => writeLine "4011" d
  | .wrDmcR2 d    => writeLine "4012" d
  | .wrDmcR3 d    => writeLine "4013" d
  | .wrX14 d      => writeLine "4014" d
  | .wrX16 d      => writeLine "4016" d
  | .wrX18 d      => writeLine "4018" d
  | .wrX19 d      => writeLine "4019" d
  | .wrX1A d      => writeLine "401A" d
  | .wrX1B d      => writeLine "401B" d
  | .wrX1C d      => writeLine "401C" d
  | .wrX1D d      => writeLine "401D" d
  | .wrX1E d      => writeLine "401E" d
  | .wrX1F d      => writeLine "401F" d
  | .wrStatus d   => writeLine "4015" d
  | .wrMode d     => writeLine "4017" d
  | .wrOut a d    => writeLine (hexAddr a) d
  | .rdStatus     => "RD $4015"
  | .rdUnmapped a => "RD $" ++ hexAddr a
  | .adv n        => "ADV " ++ toString n.toNat
  | .rst          => "RST"
  | .eof          => "EOF"
  | .clk .ntsc    => "CLK NTSC"
  | .clk .pal     => "CLK PAL"
  | .getpP1       => "GETP P1"
  | .getpP2       => "GETP P2"
  | .getpTri      => "GETP TRI"
  | .getpNoi      => "GETP NOI"
  | .getpDmc      => "GETP DMC"

end Sys2Proof.Machine
end

