-- ==== Sys2Proof/Machine/Slicing.lean ====
section
/-! DEFINITION. The slicing schedule of the source (spec/40_host_commands.md R150), the second way to run ADVANCE. The
meaning of `ADV` is the cycle-by-cycle one (R148); R151 says the two agree. -/

namespace Sys2Proof.Machine

/-- `process(k)`: a generator processes `k` master cycles from frame time `now` on, each fire stamped with its own
cycle (R150, R155). -/
def process (ch : Channel) : Nat → Time → State → State
  | 0,     _,   s => s
  | k + 1, now, s => process ch k (now + 1) (genCycle ch now s)

/-- A timing domain: the generators that ADVANCE steps together (R149). -/
def domainPulses : List Channel := [.p1, .p2]

/-- The other timing domain (R149). -/
def domainRest : List Channel := [.tri, .noi, .dmc]

/-- The minimum of `getPeriod` over a group (R150; spec/90_conflicts.md C7). -/
def minPeriod (group : List Channel) (s : State) : Nat :=
  (group.map (fun ch => (getPeriod ch s).toNat)).foldl Nat.min 0xFFFF

/-- One slice: `min(max(minimum period, MIN_SLICE), T)` (R150). -/
def sliceLength (group : List Channel) (t : Nat) (s : State) : Nat :=
  min (max (minPeriod group s) chip.minSlice) t

/-- Every generator of a group processes `k` cycles from `now` on, one generator after the other (R150). -/
def processGroup (group : List Channel) (k : Nat) (now : Time) (s : State) : State :=
  group.foldl (fun s ch => process ch k now s) s

/-- `run_domain(G, T)` (R150). Each slice is at least one cycle long, so `T` slices suffice: the first argument bounds
their number. -/
def runDomain (group : List Channel) : Nat → Nat → Time → State → State
  | 0,        _, _,   s => s
  | fuel + 1, t, now, s =>
    if t = 0 then s
    else
      let k := sliceLength group t s
      runDomain group fuel (t - k) (now + BitVec.ofNat timeBits k) (processGroup group k now s)

/-- One pass of the outer loop: at most `seq_div` cycles, then the sequencer step when the divider is used up (R150). -/
def sliceToBoundary (t : Nat) (s : State) : State :=
  let s1 := runDomain domainPulses t t s.frameTime s
  let s2 := runDomain domainRest t t s.frameTime s1
  let s3 := { s2 with frameTime := s2.frameTime + BitVec.ofNat timeBits t, seqDiv := s2.seqDiv - BitVec.ofNat 16 t }
  if s3.seqDiv = 0 then seqStep { s3 with seqDiv := seqPeriod s3.domain } else s3

/-- `advance(n)` by slices (R150). While the divider is not 0 each pass covers at least one cycle: the first argument
bounds the number of passes. -/
def advanceSlicedFuel : Nat → Nat → State → State
  | 0,        _, s => s
  | fuel + 1, n, s =>
    if n = 0 then s
    else
      let t := min n s.seqDiv.toNat
      advanceSlicedFuel fuel (n - t) (sliceToBoundary t s)

/-- The schedule of R150 for `n` cycles. -/
def advanceSliced (n : Nat) (s : State) : State := advanceSlicedFuel n n s

end Sys2Proof.Machine
end

