-- ==== Sys2Proof/Safety.lean ====
section
/-! DEFINITION. The terms in which claims about the machine are made: the invariant of every reachable state
(spec/10_state.md R23, R35), which generator a command writes to (spec/40_host_commands.md R144, R156), agreement of two
states outside one generator, which words are reserved (spec/30_encoding.md R107), and what a safe run is. -/

namespace Sys2Proof
open Machine

/-! ## Ranges (R35) -/

/-- The largest `NOISE_PERIOD` entry of both domains. -/
def maxNoisePeriod : Nat :=
  ((chip.ntsc.noisePeriod.toList ++ chip.pal.noisePeriod.toList).map BitVec.toNat).foldl Nat.max 0

/-- The largest `DMC_PERIOD` entry of both domains. -/
def maxDmcPeriod : Nat :=
  ((chip.ntsc.dmcPeriod.toList ++ chip.pal.dmcPeriod.toList).map BitVec.toNat).foldl Nat.max 0

/-- Ranges of a pulse generator (R25, R35). -/
def Machine.Pulse.InRange (g : Pulse) : Prop :=
  g.timer.toNat ≤ 2048 ∧ g.length.toNat ≤ 254 ∧ (g.enabled = true → g.ctrl = true) ∧
    -1 ≤ g.swResult ∧ g.swResult ≤ 4094

/-- Ranges of the triangle generator (R26, R35). -/
def Machine.Triangle.InRange (g : Triangle) : Prop :=
  g.timer.toNat ≤ 2048 ∧ g.length.toNat ≤ 254 ∧ (g.enabled = true → g.ctrl = true)

/-- Ranges of the noise generator (R27, R35): the period latch holds a table entry, the register is not 0. -/
def Machine.Noise.InRange (g : Noise) : Prop :=
  g.timer.toNat ≤ maxNoisePeriod ∧ g.length.toNat ≤ 254 ∧ g.lfsr ≠ 0 ∧ (g.enabled = true → g.ctrl = true) ∧
    ∃ d i, g.period = noisePeriod d i

/-- Ranges of the sample unit (R28, R35): the period latch holds a table entry. -/
def Machine.Dmc.InRange (g : Dmc) : Prop :=
  g.timer.toNat ≤ maxDmcPeriod ∧ g.bitDiv.toNat ≤ 8 ∧ g.bytes.toNat ≤ 4081 ∧ ∃ d i, g.period = dmcPeriod d i

/-- The sequencer index is valid for the mode: 0 to 3 or 0 to 4 (R23). -/
def Machine.State.IndexValid (s : State) : Prop :=
  match s.seqMode with
  | .fourStep => s.seqIndex.toNat ≤ 3
  | .fiveStep => s.seqIndex.toNat ≤ 4

/-- The divider runs: at least 1, at most the larger `SEQ_PERIOD` (R22, R35). -/
def Machine.State.DividerValid (s : State) : Prop :=
  1 ≤ s.seqDiv.toNat ∧ s.seqDiv.toNat ≤ max (seqPeriod .ntsc).toNat (seqPeriod .pal).toNat

/-- The invariant of every state reached from RESET (R23, R35), and the canonical form of the sample store. -/
structure Machine.State.Inv (s : State) : Prop where
  p1      : s.p1.InRange
  p2      : s.p2.InRange
  tri     : s.tri.InRange
  noi     : s.noi.InRange
  dmc     : s.dmc.InRange
  index   : s.IndexValid
  divider : s.DividerValid
  store   : s.store.wf = true

/-! ## Isolation (R156) -/

/-- The one generator a WRITE is routed to by the range mask (R144); STATUS, MODE and all other commands target no
single generator. -/
def Instr.target : Instr → Option Channel
  | .wrP1R0 _  | .wrP1R1 _  | .wrP1R2 _  | .wrP1R3 _  => some .p1
  | .wrP2R0 _  | .wrP2R1 _  | .wrP2R2 _  | .wrP2R3 _  => some .p2
  | .wrTriR0 _ | .wrTriR1 _ | .wrTriR2 _ | .wrTriR3 _ => some .tri
  | .wrNoiR0 _ | .wrNoiR1 _ | .wrNoiR2 _ | .wrNoiR3 _ => some .noi
  | .wrDmcR0 _ | .wrDmcR1 _ | .wrDmcR2 _ | .wrDmcR3 _ => some .dmc
  | .wrX14 _ | .wrX16 _ | .wrX18 _ | .wrX19 _ | .wrX1A _
  | .wrX1B _ | .wrX1C _ | .wrX1D _ | .wrX1E _ | .wrX1F _
  | .wrStatus _ | .wrMode _ | .wrOut _ _ | .rdStatus | .rdUnmapped _ | .adv _ | .rst | .eof | .clk _
  | .getpP1 | .getpP2 | .getpTri | .getpNoi | .getpDmc => none

/-- Two states hold the same fields of generator `ch`. -/
def SameGenerator (a b : State) : Channel → Prop
  | .p1  => a.p1 = b.p1
  | .p2  => a.p2 = b.p2
  | .tri => a.tri = b.tri
  | .noi => a.noi = b.noi
  | .dmc => a.dmc = b.dmc ∧ a.fetches = b.fetches ∧ a.draws = b.draws

/-- Two states agree on all of generator `ch`: its fields, its level register, its level events, and for the sample
unit its fetches. -/
def AgreeOn (ch : Channel) (a b : State) : Prop :=
  SameGenerator a b ch ∧ a.levels.get ch = b.levels.get ch ∧ eventsOf ch a.events = eventsOf ch b.events

/-- Two states agree on everything that is no generator's: the sequencer, time, the clock domain, the store, the
host's queue and the responses. -/
def AgreeOnRest (a b : State) : Prop :=
  a.seqIndex = b.seqIndex ∧ a.seqMode = b.seqMode ∧ a.seqDiv = b.seqDiv ∧ a.domain = b.domain ∧
    a.frameTime = b.frameTime ∧ a.store = b.store ∧ a.pending = b.pending ∧ a.responses = b.responses

/-- Two states agree on everything outside generator `ch`. -/
def AgreeOutside (ch : Channel) (a b : State) : Prop :=
  (∀ c, c ≠ ch → AgreeOn c a b) ∧ AgreeOnRest a b

/-! ## Reserved words (R107) -/

/-- The words R107 reserves, by the value of the word: an `op` of 0x0 or 0x8 to 0xF, a nonzero field marked "zero" in
R101 to R106, or a GETPERIOD of channel 5 to 7. -/
def ReservedWord (w : Word) : Prop :=
  let n := w.toNat
  let op := n / 2 ^ 28
  op = 0 ∨ 8 ≤ op ∨
    ((op = 1 ∨ op = 2) ∧ n / 2 ^ 24 % 2 ^ 4 ≠ 0) ∨
    (op = 2 ∧ n % 2 ^ 8 ≠ 0) ∨
    ((op = 4 ∨ op = 5) ∧ n % 2 ^ 28 ≠ 0) ∨
    (op = 6 ∧ n / 2 % 2 ^ 27 ≠ 0) ∨
    (op = 7 ∧ n / 2 ^ 3 % 2 ^ 25 ≠ 0) ∨
    (op = 7 ∧ 5 ≤ n % 2 ^ 3)

/-! ## Safe runs -/

/-- A host action the block accepts: a word that is not reserved, a load R77 speaks of, a clear. -/
def Accepted : HostAction → Prop
  | .word w     => ¬ ReservedWord w
  | .load bytes => bytes.length ≤ 0x4000
  | .clear      => True

/-- `k` steps from `s` end in `t`, with no fault and no refusal on the way. -/
def RunsTo (k : Nat) (s t : State) : Prop := core.run k s = .next t

end Sys2Proof
end

