-- ==== Sys2Proof/Certificates/Slice0/Obligations.lean ====
section
/-! DEFINITION. The statements about the machine, for the provers. Each docstring names the rule of spec/ it formalises.
Data bits are read off the value of the byte (`data / 2^k % 2`), not through the model's own field extraction. -/

open Sys2Proof Sys2Proof.Machine

/-! ## Words and steps -/

/-- Words of spec/95_test_vectors.md 2.1 and 2.2 decode to the commands they are listed for (R100 to R108, R125). -/
def Obligations.ListedWordsDecode : Prop :=
  decode 0x104000BF = .ok (.wrP1R0 0xBF) ∧ decode 0x10400708 = .ok (.wrP2R3 0x08) ∧
  decode 0x10400A02 = .ok (.wrTriR2 0x02) ∧ decode 0x10400E85 = .ok (.wrNoiR2 0x85) ∧
  decode 0x1040108F = .ok (.wrDmcR0 0x8F) ∧ decode 0x1040151F = .ok (.wrStatus 0x1F) ∧
  decode 0x10401780 = .ok (.wrMode 0x80) ∧ decode 0x104014FF = .ok (.wrX14 0xFF) ∧
  decode 0x10FFFFFF = .ok (.wrOut 0xFFFF 0xFF) ∧ decode 0x20401500 = .ok .rdStatus ∧
  decode 0x20000000 = .ok (.rdUnmapped 0x0000) ∧ decode 0x30001D21 = .ok (.adv 7457) ∧
  decode 0x40000000 = .ok .rst ∧ decode 0x50000000 = .ok .eof ∧ decode 0x60000001 = .ok (.clk .pal) ∧
  decode 0x70000003 = .ok .getpNoi ∧ decode 0x70000005 = .error .reservedChannel

/-- The decoder reads back every well-formed command from its word, at every operand value. -/
def Obligations.DecodeInvertsEncode : Prop :=
  ∀ i : Instr, i.wf = true → decode (encode i) = .ok i

/-- Each word has at most one meaning, and that meaning is well-formed and encodes to the word again: no bit of a word
is dropped. -/
def Obligations.EncodeInvertsDecode : Prop :=
  ∀ (w : Word) (i : Instr), decode w = .ok i → i.wf = true ∧ encode i = w

/-- R107: exactly the reserved words are rejected, and a step whose next action is one is refused. -/
def Obligations.ReservedWordsRefused : Prop :=
  ∀ w : Word, (ReservedWord w ↔ ∃ why, decode w = .error why) ∧
    (ReservedWord w → ∀ (s : State) (rest : List HostAction), s.pending = .word w :: rest →
      ∃ why, step s = .refused (.reservedWord why))

/-- A step runs the decoded command: take the word off the queue, then `exec`. The queue is the model's choice, log
entry 4. -/
def Obligations.StepRunsDecodedCommand : Prop :=
  ∀ (s : State) (w : Word) (rest : List HostAction) (i : Instr),
    s.pending = .word w :: rest → decode w = .ok i → step s = exec i { s with pending := rest }

/-- R77: after a load of `n <= 0x4000` bytes the store holds byte `i` at 0xC000 + `i` and no definite byte elsewhere;
after a clear it holds none; nothing else of the machine changes. With no action pending a step changes nothing: the
model's choice, log entry 4. -/
def Obligations.StoreActionsLoadAndClear : Prop :=
  ∀ (s : State) (rest : List HostAction),
    (∀ bytes : List Byte, s.pending = .load bytes :: rest → bytes.length ≤ 0x4000 →
      ∃ m : Memory, step s = .next { s with pending := rest, store := m } ∧
        ∀ a : Nat, m.read a = if 0xC000 ≤ a then bytes[a - 0xC000]? else none) ∧
    (s.pending = .clear :: rest →
      ∃ m : Memory, step s = .next { s with pending := rest, store := m } ∧ ∀ a : Nat, m.read a = none) ∧
    (s.pending = [] → step s = .next s)

/-- Every command answers a next state, in every state and for every operand: nothing in the block raises or fails. -/
def Obligations.EveryCommandCompletes : Prop :=
  ∀ (i : Instr) (s : State), ∃ t : State, exec i s = .next t

/-- A queue of accepted host actions is performed to its end in as many steps as it has actions. The queue is the model's
choice, log entry 4. -/
def Obligations.AcceptedQueueRunsToItsEnd : Prop :=
  ∀ s : State, (∀ a ∈ s.pending, Accepted a) → ∃ t : State, RunsTo s.pending.length s t ∧ t.pending = []

/-! ## The register bus -/

/-- R71, R142, R145: a WRITE outside the window 0x4000 to 0x401F, or to offset 0x14, 0x16 or 0x18 to 0x1F, changes
nothing but the queue, whatever the data. -/
def Obligations.UnassignedAndOutsideWritesDropped : Prop :=
  ∀ (addr : Addr) (data : Byte) (s : State) (rest : List HostAction),
    (addr.toNat < 0x4000 ∨ 0x401F < addr.toNat ∨ addr.toNat = 0x4014 ∨ addr.toNat = 0x4016 ∨ 0x4018 ≤ addr.toNat) →
    s.pending = .word (BitVec.ofNat 32 (0x10000000 + addr.toNat * 2 ^ 8 + data.toNat)) :: rest →
    step s = .next { s with pending := rest }

/-- The commands that change nothing: WRITE to TRI.1 (R232), NOI.1 (R252), the ten unassigned offsets and any address
outside the window (R145). -/
def Obligations.IgnoredWritesChangeNothing : Prop :=
  ∀ (a : Addr) (d : Byte) (s : State),
    exec (.wrTriR1 d) s = .next s ∧ exec (.wrNoiR1 d) s = .next s ∧
    exec (.wrX14 d) s = .next s ∧ exec (.wrX16 d) s = .next s ∧ exec (.wrX18 d) s = .next s ∧
    exec (.wrX19 d) s = .next s ∧ exec (.wrX1A d) s = .next s ∧ exec (.wrX1B d) s = .next s ∧
    exec (.wrX1C d) s = .next s ∧ exec (.wrX1D d) s = .next s ∧ exec (.wrX1E d) s = .next s ∧
    exec (.wrX1F d) s = .next s ∧ exec (.wrOut a d) s = .next s

/-- R146: a STATUS read answers `I 0 0 D N T 2 1`, mapped, and changes nothing else. -/
def Obligations.StatusReadAnswersFlags : Prop :=
  ∀ s : State, ∃ v : Byte,
    exec .rdStatus s = .next { s with responses := s.responses ++ [.read v true] } ∧
    v.toNat = (decide (0 < s.p1.length.toNat) && s.p1.enabled).toNat
      + 2 * (decide (0 < s.p2.length.toNat) && s.p2.enabled).toNat
      + 4 * (decide (0 < s.tri.length.toNat) && s.tri.enabled).toNat
      + 8 * (decide (0 < s.noi.length.toNat) && s.noi.enabled).toNat
      + 16 * (decide (0 < s.dmc.bytes.toNat)).toNat + 128 * s.dmc.irq.toNat

/-- R147: a READ of any address but STATUS, inside the window or not, answers 0, unmapped, and changes nothing else. -/
def Obligations.OtherReadsAnswerUnmapped : Prop :=
  ∀ (addr : Addr) (s : State),
    exec (.rdUnmapped addr) s = .next { s with responses := s.responses ++ [.read 0 false] } ∧
    ∀ rest : List HostAction, addr.toNat ≠ 0x4015 →
      s.pending = .word (BitVec.ofNat 32 (0x20000000 + addr.toNat * 2 ^ 8)) :: rest →
      step s = .next { s with pending := rest, responses := s.responses ++ [.read 0 false] }

/-! ## Generator registers -/

/-- R191, R205: sub-register 0 of a pulse writes duty, the two envelope flags and the volume, and nothing else. -/
def Obligations.PulseControlWrite : Prop :=
  ∀ (data : Byte) (s : State), ∃ g1 g2 : Pulse,
    exec (.wrP1R0 data) s = .next { s with p1 := g1 } ∧ exec (.wrP2R0 data) s = .next { s with p2 := g2 } ∧
    ∀ old new : Pulse, (old = s.p1 ∧ new = g1) ∨ (old = s.p2 ∧ new = g2) →
      new = { old with duty := new.duty,
                       env := { old.env with loop := new.env.loop, const := new.env.const, vol := new.env.vol } } ∧
      new.duty.toNat = data.toNat / 2 ^ 6 ∧
      (new.env.loop = true ↔ data.toNat / 2 ^ 5 % 2 = 1) ∧
      (new.env.const = true ↔ data.toNat / 2 ^ 4 % 2 = 1) ∧
      new.env.vol.toNat = data.toNat % 2 ^ 4

/-- R192, R206: sub-register 1 of a pulse writes the four sweep latches and sets `sw_written`, and nothing else. -/
def Obligations.PulseSweepWrite : Prop :=
  ∀ (data : Byte) (s : State), ∃ g1 g2 : Pulse,
    exec (.wrP1R1 data) s = .next { s with p1 := g1 } ∧ exec (.wrP2R1 data) s = .next { s with p2 := g2 } ∧
    ∀ old new : Pulse, (old = s.p1 ∧ new = g1) ∨ (old = s.p2 ∧ new = g2) →
      new = { old with swEn := new.swEn, swPeriod := new.swPeriod, swNeg := new.swNeg, swShift := new.swShift,
                       swWritten := true } ∧
      (new.swEn = true ↔ data.toNat / 2 ^ 7 = 1) ∧
      new.swPeriod.toNat = data.toNat / 2 ^ 4 % 2 ^ 3 ∧
      (new.swNeg = true ↔ data.toNat / 2 ^ 3 % 2 = 1) ∧
      new.swShift.toNat = data.toNat % 2 ^ 3

/-- R193, R207, R233: sub-register 2 of P1, P2 and TRI replaces the low eight period bits, and nothing else. -/
def Obligations.PeriodLowWrite : Prop :=
  ∀ (data : Byte) (s : State), ∃ n1 n2 n3 : BitVec 11,
    exec (.wrP1R2 data) s = .next { s with p1 := { s.p1 with period := n1 } } ∧
    exec (.wrP2R2 data) s = .next { s with p2 := { s.p2 with period := n2 } } ∧
    exec (.wrTriR2 data) s = .next { s with tri := { s.tri with period := n3 } } ∧
    n1.toNat = s.p1.period.toNat / 2 ^ 8 * 2 ^ 8 + data.toNat ∧
    n2.toNat = s.p2.period.toNat / 2 ^ 8 * 2 ^ 8 + data.toNat ∧
    n3.toNat = s.tri.period.toNat / 2 ^ 8 * 2 ^ 8 + data.toNat

/-- R194, R208: sub-register 3 of a pulse replaces the high three period bits, loads the length counter from the table of
R80, restarts duty and envelope level, and sets `enabled` when `ctrl` is set; nothing else changes. -/
def Obligations.PulseTriggerWrite : Prop :=
  ∀ (data : Byte) (s : State), ∃ g1 g2 : Pulse,
    exec (.wrP1R3 data) s = .next { s with p1 := g1 } ∧ exec (.wrP2R3 data) s = .next { s with p2 := g2 } ∧
    ∀ old new : Pulse, (old = s.p1 ∧ new = g1) ∨ (old = s.p2 ∧ new = g2) →
      new = { old with period := new.period, length := new.length, dutyStep := 0,
                       env := { old.env with level := 15 }, enabled := new.enabled } ∧
      new.period.toNat = data.toNat % 2 ^ 3 * 2 ^ 8 + old.period.toNat % 2 ^ 8 ∧
      [10, 254, 20, 2, 40, 4, 80, 6, 160, 8, 60, 10, 14, 12, 26, 14,
       12, 16, 24, 18, 48, 20, 96, 22, 192, 24, 72, 26, 16, 28, 32, 30][data.toNat / 2 ^ 3]?
        = some new.length.toNat ∧
      (new.enabled = true ↔ old.enabled = true ∨ old.ctrl = true)

/-- R231, R234: sub-register 0 of TRI writes `tri_loop` and `lin_reload`; sub-register 3 replaces the high three period
bits, loads the length counter, sets `halt`, and sets `enabled` when `ctrl` is set; nothing else changes. -/
def Obligations.TriangleWrites : Prop :=
  ∀ (data : Byte) (s : State), ∃ g0 g3 : Triangle,
    exec (.wrTriR0 data) s = .next { s with tri := g0 } ∧
    g0 = { s.tri with triLoop := g0.triLoop, linReload := g0.linReload } ∧
    (g0.triLoop = true ↔ data.toNat / 2 ^ 7 = 1) ∧ g0.linReload.toNat = data.toNat % 2 ^ 7 ∧
    exec (.wrTriR3 data) s = .next { s with tri := g3 } ∧
    g3 = { s.tri with period := g3.period, length := g3.length, halt := true, enabled := g3.enabled } ∧
    g3.period.toNat = data.toNat % 2 ^ 3 * 2 ^ 8 + s.tri.period.toNat % 2 ^ 8 ∧
    [10, 254, 20, 2, 40, 4, 80, 6, 160, 8, 60, 10, 14, 12, 26, 14,
     12, 16, 24, 18, 48, 20, 96, 22, 192, 24, 72, 26, 16, 28, 32, 30][data.toNat / 2 ^ 3]? = some g3.length.toNat ∧
    (g3.enabled = true ↔ s.tri.enabled = true ∨ s.tri.ctrl = true)

/-- R251, R253, R254: sub-registers 0, 2 and 3 of NOI; the period is looked up in the present domain's table of R83. -/
def Obligations.NoiseWrites : Prop :=
  ∀ (data : Byte) (s : State), ∃ g0 g2 g3 : Noise,
    exec (.wrNoiR0 data) s = .next { s with noi := g0 } ∧
    g0 = { s.noi with env := { s.noi.env with loop := g0.env.loop, const := g0.env.const, vol := g0.env.vol } } ∧
    (g0.env.loop = true ↔ data.toNat / 2 ^ 5 % 2 = 1) ∧
    (g0.env.const = true ↔ data.toNat / 2 ^ 4 % 2 = 1) ∧ g0.env.vol.toNat = data.toNat % 2 ^ 4 ∧
    exec (.wrNoiR2 data) s = .next { s with noi := g2 } ∧
    g2 = { s.noi with mode := g2.mode, period := g2.period } ∧
    (g2.mode = true ↔ data.toNat / 2 ^ 7 = 1) ∧
    (match s.domain with
      | .ntsc => [4, 8, 16, 32, 64, 96, 128, 160, 202, 254, 380, 508, 762, 1016, 2034, 4068]
      | .pal  => [4, 8, 14, 30, 60, 88, 118, 148, 188, 236, 354, 472, 708, 944, 1890, 3778])[data.toNat % 2 ^ 4]?
        = some g2.period.toNat ∧
    exec (.wrNoiR3 data) s = .next { s with noi := g3 } ∧
    g3 = { s.noi with length := g3.length, env := { s.noi.env with level := 15 }, enabled := g3.enabled } ∧
    [10, 254, 20, 2, 40, 4, 80, 6, 160, 8, 60, 10, 14, 12, 26, 14,
     12, 16, 24, 18, 48, 20, 96, 22, 192, 24, 72, 26, 16, 28, 32, 30][data.toNat / 2 ^ 3]? = some g3.length.toNat ∧
    (g3.enabled = true ↔ s.noi.enabled = true ∨ s.noi.ctrl = true)

/-- R271 to R274: the four registers of the sample unit; the period is looked up in the present domain's table of R84;
DMC.1 also presents its level at once, stamped with the current frame time. -/
def Obligations.SampleUnitWrites : Prop :=
  ∀ (data : Byte) (s : State), ∃ (g0 : Dmc) (d : BitVec 7),
    exec (.wrDmcR0 data) s = .next { s with dmc := g0 } ∧
    g0 = { s.dmc with irqEn := g0.irqEn, loop := g0.loop, period := g0.period, irq := g0.irq } ∧
    (g0.irqEn = true ↔ data.toNat / 2 ^ 7 = 1) ∧ (g0.loop = true ↔ data.toNat / 2 ^ 6 % 2 = 1) ∧
    (g0.irq = true ↔ s.dmc.irq = true ∧ data.toNat / 2 ^ 7 = 1) ∧
    (match s.domain with
      | .ntsc => [428, 380, 340, 320, 286, 254, 226, 214, 190, 160, 142, 128, 106, 84, 72, 54]
      | .pal  => [398, 354, 316, 298, 276, 236, 210, 198, 176, 148, 132, 118, 98, 78, 66, 50])[data.toNat % 2 ^ 4]?
        = some g0.period.toNat ∧
    d.toNat = data.toNat % 2 ^ 7 ∧
    exec (.wrDmcR1 data) s = .next { s with
      dmc    := { s.dmc with delta := d }
      levels := { s.levels with dmc := d }
      events := s.events ++ (if d = s.levels.dmc then []
                  else [{ ch := .dmc, time := s.frameTime, delta := (d.toNat : Int) - s.levels.dmc.toNat }]) } ∧
    exec (.wrDmcR2 data) s = .next { s with dmc := { s.dmc with addrReg := data } } ∧
    exec (.wrDmcR3 data) s = .next { s with dmc := { s.dmc with lenReg := data } }

/-- R143 with R195, R235, R255, R275 and R278: a STATUS write gives bits 0 to 4 to the five enable controls; the sample
starts only when no byte is left, stops when bit 4 is 0, and the IRQ flag is always cleared; nothing else changes. -/
def Obligations.StatusWriteFansOut : Prop :=
  ∀ (data : Byte) (s : State), ∃ (c : Nat → Bool) (cur : BitVec 15) (left : BitVec 12),
    (∀ k : Nat, c k = true ↔ data.toNat / 2 ^ k % 2 = 1) ∧
    exec (.wrStatus data) s = .next { s with
      p1  := { s.p1 with ctrl := c 0, enabled := s.p1.enabled && c 0 }
      p2  := { s.p2 with ctrl := c 1, enabled := s.p2.enabled && c 1 }
      tri := { s.tri with ctrl := c 2, enabled := s.tri.enabled && c 2 }
      noi := { s.noi with ctrl := c 3, enabled := s.noi.enabled && c 3 }
      dmc := { s.dmc with curAddr := cur, bytes := left, irq := false } } ∧
    (c 4 = true → s.dmc.bytes.toNat = 0 →
      cur.toNat = 0x4000 + 64 * s.dmc.addrReg.toNat ∧ left.toNat = 16 * s.dmc.lenReg.toNat + 1) ∧
    (c 4 = true → s.dmc.bytes.toNat ≠ 0 → cur = s.dmc.curAddr ∧ left = s.dmc.bytes) ∧
    (c 4 = false → cur = s.dmc.curAddr ∧ left.toNat = 0)

/-- R128 (`PER`), R126, R78: the two writes of `PER g,#n,#l` leave the 11-bit period `n` and the length
`LENGTH_TABLE[l]` in P1, P2 or TRI, whatever was there before. -/
def Obligations.PeriodAssembledFromTwoWrites : Prop :=
  ∀ (n : BitVec 11) (l : BitVec 5) (s : State),
    (∃ i j t u, pseudoPerP1 n l = [i, j] ∧ exec i s = .next t ∧ exec j t = .next u ∧
      u.p1.period = n ∧ u.p1.length = lengthOf l) ∧
    (∃ i j t u, pseudoPerP2 n l = [i, j] ∧ exec i s = .next t ∧ exec j t = .next u ∧
      u.p2.period = n ∧ u.p2.length = lengthOf l) ∧
    (∃ i j t u, pseudoPerTri n l = [i, j] ∧ exec i s = .next t ∧ exec j t = .next u ∧
      u.tri.period = n ∧ u.tri.length = lengthOf l)

/-! ## Modulation units and the sequencer -/

/-- R197, R257: one fast tick of the envelope of P1, P2 and NOI; nothing else of the generator changes. -/
def Obligations.EnvelopeClock : Prop :=
  ∀ e : Envelope, ∃ e' : Envelope,
    (∀ g : Pulse, g.env = e → g.clockEnvelope = { g with env := e' }) ∧
    (∀ g : Noise, g.env = e → g.clockEnvelope = { g with env := e' }) ∧
    e' = { e with div := e'.div, level := e'.level } ∧
    (e.div.toNat ≠ 0 → e'.div.toNat = e.div.toNat - 1 ∧ e'.level = e.level) ∧
    (e.div.toNat = 0 → e'.div = e.vol ∧
      e'.level.toNat =
        if e.const then e.level.toNat
        else if e.loop then (e.level.toNat + 15) % 16
        else e.level.toNat - 1)

/-- R198: one slow tick of a sweep unit, with `diff` 1 for P1 and 0 for P2 (R190); an update writes a target in 3 to
2047. -/
def Obligations.SweepClock : Prop :=
  ∀ (p : PulseId) (g : Pulse),
    let shifted : Int := (g.period.toNat / 2 ^ g.swShift.toNat : Nat)
    let target : Int :=
      if g.swNeg then (g.period.toNat : Int) - shifted - (if p = .p1 then 1 else 0)
      else (g.period.toNat : Int) + shifted
    let updates : Prop := g.swDiv.toNat = 0 ∧ g.swEn = true ∧ 7 < g.period.toNat ∧ target < 0x800 ∧ 0 < g.swShift.toNat
    ∃ g' : Pulse, g.sweep p.diff = g' ∧
      g' = { g with swResult := target, period := g'.period, swDiv := g'.swDiv, swWritten := false } ∧
      (updates → (g'.period.toNat : Int) = target ∧ 3 ≤ target ∧ target ≤ 2047) ∧
      (¬ updates → g'.period = g.period) ∧
      g'.swDiv.toNat =
        if g.swWritten = true ∨ g.swDiv.toNat = 0 then g.swPeriod.toNat else g.swDiv.toNat - 1

/-- R199, R238, R260, R237: one slow tick of the length counters and one fast tick of the linear counter. -/
def Obligations.LengthAndLinearClock : Prop :=
  (∀ g : Pulse, ∃ n : BitVec 8, g.clockLen = { g with length := n } ∧
    n.toNat = if g.env.loop then g.length.toNat else g.length.toNat - 1) ∧
  (∀ g : Noise, ∃ n : BitVec 8, g.clockLen = { g with length := n } ∧
    n.toNat = if g.env.loop then g.length.toNat else g.length.toNat - 1) ∧
  (∀ g : Triangle, ∃ n : BitVec 8, g.clockLen = { g with length := n } ∧
    n.toNat = if g.triLoop then g.length.toNat else g.length.toNat - 1) ∧
  (∀ g : Triangle, ∃ (n : BitVec 7) (h : Bool), g.clockLinear = { g with linCounter := n, halt := h } ∧
    (n.toNat = if g.halt then g.linReload.toNat else g.linCounter.toNat - 1) ∧
    (h = true ↔ g.halt = true ∧ g.triLoop = true))

/-- R171 with R174, R175: a MODE write resets the index; with bit 7 set it also clocks, in this order, the envelopes and
the linear counter, then the sweeps and the length counters; with bit 7 clear nothing else changes. -/
def Obligations.ModeWriteFiresOnePass : Prop :=
  ∀ (data : Byte) (s : State),
    (data.toNat / 2 ^ 7 = 0 → exec (.wrMode data) s = .next { s with seqIndex := 0, seqMode := .fourStep }) ∧
    (data.toNat / 2 ^ 7 = 1 → exec (.wrMode data) s = .next { s with
      seqIndex := 0, seqMode := .fiveStep
      p1  := (s.p1.clockEnvelope.sweep 1).clockLen
      p2  := (s.p2.clockEnvelope.sweep 0).clockLen
      tri := s.tri.clockLinear.clockLen
      noi := s.noi.clockEnvelope.clockLen })

/-- R173 to R176: the sequencer step, by mode and index: the index moves on and the pattern of the new index fires. The
fast tick clocks the three envelopes and the linear counter, the slow tick the two sweeps (`diff` 1 and 0) and then the
four length counters, the reserved tick nothing; each leaves everything else as it was. -/
def Obligations.SequencerFiringPattern : Prop :=
  ∀ s : State,
    (tickFast s = { s with p1 := s.p1.clockEnvelope, p2 := s.p2.clockEnvelope, noi := s.noi.clockEnvelope,
                           tri := s.tri.clockLinear }) ∧
    (tickSlow s = { s with p1 := (s.p1.sweep 1).clockLen, p2 := (s.p2.sweep 0).clockLen, tri := s.tri.clockLen,
                           noi := s.noi.clockLen }) ∧
    tickReserved s = s ∧
    (s.seqMode = .fourStep →
      (s.seqIndex.toNat = 0 → seqStep s = tickSlow (tickFast { s with seqIndex := 1 })) ∧
      (s.seqIndex.toNat = 1 → seqStep s = tickFast { s with seqIndex := 2 }) ∧
      (s.seqIndex.toNat = 2 → seqStep s = tickReserved (tickSlow (tickFast { s with seqIndex := 3 }))) ∧
      (s.seqIndex.toNat = 3 → seqStep s = tickFast { s with seqIndex := 0 })) ∧
    (s.seqMode = .fiveStep →
      (s.seqIndex.toNat = 0 → seqStep s = tickFast { s with seqIndex := 1 }) ∧
      (s.seqIndex.toNat = 1 → seqStep s = tickSlow (tickFast { s with seqIndex := 2 })) ∧
      (s.seqIndex.toNat = 2 → seqStep s = tickFast { s with seqIndex := 3 }) ∧
      (s.seqIndex.toNat = 3 → seqStep s = { s with seqIndex := 4 }) ∧
      (s.seqIndex.toNat = 4 → seqStep s = tickSlow (tickFast { s with seqIndex := 0 })))

/-- R23, R177: the sequencer index stays valid for the mode under every command, ADVANCE of any length included. -/
def Obligations.SequencerIndexStaysBounded : Prop :=
  ∀ (i : Instr) (s t : State), s.IndexValid → exec i s = .next t → t.IndexValid

/-- R172, R149: while fewer cycles pass than the divider holds, the divider counts them, no tick fires (every
sequencer-clocked field keeps its value) and `frame_time` counts modulo 2^32. -/
def Obligations.NoTickBeforeDividerExpires : Prop :=
  ∀ (n : Cycles) (s : State), n.toNat < s.seqDiv.toNat → ∃ t : State, exec (.adv n) s = .next t ∧
    t.seqDiv.toNat = s.seqDiv.toNat - n.toNat ∧ t.seqIndex = s.seqIndex ∧ t.seqMode = s.seqMode ∧
    t.domain = s.domain ∧ t.frameTime.toNat = (s.frameTime.toNat + n.toNat) % 2 ^ 32 ∧
    (∀ p : PulseId, t.pulse p = { s.pulse p with timer := (t.pulse p).timer, dutyStep := (t.pulse p).dutyStep }) ∧
    t.tri = { s.tri with timer := t.tri.timer, step := t.tri.step } ∧
    t.noi = { s.noi with timer := t.noi.timer, lfsr := t.noi.lfsr }

/-- R172, R173: a divider reloaded with `SEQ_PERIOD` (7457 NTSC, 6927 PAL) takes exactly one sequencer step in every
`SEQ_PERIOD` cycles: after `k` periods the index has moved `k` places modulo 4 or 5 and the divider is full again. -/
def Obligations.SequencerStepsOncePerPeriod : Prop :=
  ∀ (k : Nat) (s : State), s.IndexValid →
    s.seqDiv.toNat = (if s.domain = .ntsc then 7457 else 6927) →
    k * s.seqDiv.toNat < 2 ^ 28 →
    ∃ t : State, exec (.adv (BitVec.ofNat 28 (k * s.seqDiv.toNat))) s = .next t ∧
      t.seqDiv = s.seqDiv ∧ t.seqMode = s.seqMode ∧
      t.seqIndex.toNat = (s.seqIndex.toNat + k) % (if s.seqMode = .fourStep then 4 else 5)

/-- R149, R172: in the cycle in which the divider expires the generators go first, with the state from before the
tick, then the divider is reloaded and one sequencer step is taken. -/
def Obligations.SequencerStepEndsItsCycle : Prop :=
  ∀ s : State, s.seqDiv.toNat = 1 → ∃ u : State,
    exec (.adv 1) { s with seqDiv := 2 } = .next u ∧
    exec (.adv 1) s = .next (seqStep { u with seqDiv := if s.domain = .ntsc then 7457 else 6927 })

/-! ## One master cycle of each generator, as ADVANCE 1 -/

/-- R200, R201, R301: one master cycle of the two pulse timers. Frozen while the period is 0; with the timer at 0 a due
fire is stamped `now`; at 1 the fire is stamped `now + 1`; else the timer only counts. In a cycle with no sequencer step
nothing else of the generator changes. -/
def Obligations.PulseMasterCycle : Prop :=
  ∀ s : State, ∃ t : State, exec (.adv 1) s = .next t ∧
    ∀ p : PulseId,
      let g := s.pulse p
      let old : Nat := s.levels.get p.channel
      let new : Nat :=
        if 7 < g.period.toNat ∧ g.enabled = true ∧ 0 < g.length.toNat ∧ g.swResult < 0x800 ∧
            [0x000C, 0x003C, 0x03FC, 0xFFC3].getD g.duty.toNat 0 / 2 ^ g.dutyStep.toNat % 2 = 1
        then (if g.env.const then g.env.vol.toNat else g.env.level.toNat) else 0
      let still (timer : Nat) : Prop :=
        (t.pulse p).timer.toNat = timer ∧ (t.pulse p).dutyStep = g.dutyStep ∧
          t.levels.get p.channel = old ∧ eventsOf p.channel t.events = eventsOf p.channel s.events
      let fires (stamp : Time) (timer : Nat) : Prop :=
        (t.pulse p).timer.toNat = timer ∧ (t.pulse p).dutyStep = g.dutyStep + 1 ∧
          t.levels.get p.channel = new ∧
          eventsOf p.channel t.events = eventsOf p.channel s.events ++
            (if new = old then [] else [{ ch := p.channel, time := stamp, delta := (new : Int) - old }])
      (g.period.toNat = 0 → still g.timer.toNat) ∧
      (0 < g.period.toNat → g.timer.toNat = 0 → fires s.frameTime g.period.toNat) ∧
      (0 < g.period.toNat → g.timer.toNat = 1 → fires (s.frameTime + 1) (g.period.toNat + 1)) ∧
      (0 < g.period.toNat → 2 ≤ g.timer.toNat → still (g.timer.toNat - 1)) ∧
      (s.seqDiv.toNat ≠ 1 →
        t.pulse p = { g with timer := (t.pulse p).timer, dutyStep := (t.pulse p).dutyStep })

/-- R239, R240, R301: one master cycle of the triangle: frozen while inactive, parked at step 7 and level 8 in the
ultrasonic case, else the timer scheme with reload `period + 1`. In a cycle with no sequencer step nothing else of the
generator changes. -/
def Obligations.TriangleMasterCycle : Prop :=
  ∀ s : State, ∃ t : State, exec (.adv 1) s = .next t ∧
    let g := s.tri
    let active : Prop := 0 < g.linCounter.toNat ∧ 0 < g.length.toNat ∧ g.enabled = true
    let old : Nat := s.levels.tri.toNat
    let still (timer : Nat) : Prop :=
      t.tri.timer.toNat = timer ∧ t.tri.step = g.step ∧ t.levels.tri = s.levels.tri ∧
        eventsOf .tri t.events = eventsOf .tri s.events
    let presents (new : Nat) (stamp : Time) : Prop :=
      t.levels.tri.toNat = new ∧
        eventsOf .tri t.events = eventsOf .tri s.events ++
          (if new = old then [] else [{ ch := .tri, time := stamp, delta := (new : Int) - old }])
    let level : Nat := if g.step.toNat < 16 then 15 - g.step.toNat else g.step.toNat - 16
    (¬ active → still g.timer.toNat) ∧
    (active → g.period.toNat ≤ 1 →
      t.tri.timer = g.timer ∧ t.tri.step = 7 ∧ presents 8 (s.frameTime + 1)) ∧
    (active → 2 ≤ g.period.toNat → g.timer.toNat = 0 →
      t.tri.timer.toNat = g.period.toNat ∧ t.tri.step = g.step + 1 ∧ presents level s.frameTime) ∧
    (active → 2 ≤ g.period.toNat → g.timer.toNat = 1 →
      t.tri.timer.toNat = g.period.toNat + 1 ∧ t.tri.step = g.step + 1 ∧ presents level (s.frameTime + 1)) ∧
    (active → 2 ≤ g.period.toNat → 2 ≤ g.timer.toNat → still (g.timer.toNat - 1)) ∧
    (s.seqDiv.toNat ≠ 1 → t.tri = { g with timer := t.tri.timer, step := t.tri.step })

/-- R258, R259, R301: one master cycle of the noise generator, in a state of the invariant (the period latch holds a
table entry): the timer runs always; a fire presents the volume when bit 0 is 1 and the generator is active, then shifts
the register. In a cycle with no sequencer step nothing else of the generator changes. -/
def Obligations.NoiseMasterCycle : Prop :=
  ∀ s : State, s.Inv → ∃ t : State, exec (.adv 1) s = .next t ∧
    let g := s.noi
    let r := g.lfsr.toNat
    let old : Nat := s.levels.noi.toNat
    let new : Nat :=
      if g.enabled = true ∧ 0 < g.length.toNat ∧ r % 2 = 1
      then (if g.env.const then g.env.vol.toNat else g.env.level.toNat) else 0
    let shifted : Nat := r / 2 + 2 ^ 14 * ((r % 2 + r / 2 ^ (if g.mode then 6 else 1) % 2) % 2)
    let fires (stamp : Time) (timer : Nat) : Prop :=
      t.noi.timer.toNat = timer ∧ t.noi.lfsr.toNat = shifted ∧ t.levels.noi.toNat = new ∧
        eventsOf .noi t.events = eventsOf .noi s.events ++
          (if new = old then [] else [{ ch := .noi, time := stamp, delta := (new : Int) - old }])
    (g.timer.toNat = 0 → fires s.frameTime (g.period.toNat - 1)) ∧
    (g.timer.toNat = 1 → fires (s.frameTime + 1) g.period.toNat) ∧
    (2 ≤ g.timer.toNat →
      t.noi.timer.toNat = g.timer.toNat - 1 ∧ t.noi.lfsr = g.lfsr ∧ t.levels.noi = s.levels.noi ∧
        eventsOf .noi t.events = eventsOf .noi s.events) ∧
    (s.seqDiv.toNat ≠ 1 → t.noi = { g with timer := t.noi.timer, lfsr := t.noi.lfsr })

/-- R280 to R283, R278, R301, R76: one master cycle of the sample unit, in a state of the invariant. A fire runs the reader, then the output unit. The byte `b` fetched is the loaded one where there is one, and
any byte where there is none (log entry 2: the statement holds for every value of that free byte). -/
def Obligations.SampleUnitMasterCycle : Prop :=
  ∀ s : State, s.Inv → ∃ t : State, exec (.adv 1) s = .next t ∧
    let g := s.dmc
    let bus : Nat := 0x8000 + g.curAddr.toNat
    let fires (stamp : Time) (timer : Nat) : Prop := ∃ b : Byte, (∀ v, s.store.read bus = some v → b = v) ∧
      let fetches : Prop := g.filled = false ∧ 0 < g.bytes.toNat
      let read : Dmc :=
        if g.filled = false ∧ 1 < g.bytes.toNat then
          { g with buffer := b, filled := true, curAddr := g.curAddr + 1, bytes := g.bytes - 1 }
        else if g.filled = false ∧ g.bytes.toNat = 1 then
          if g.loop then
            { g with buffer := b, filled := true, curAddr := BitVec.ofNat 15 (0x4000 + 64 * g.addrReg.toNat),
                     bytes := BitVec.ofNat 12 (16 * g.lenReg.toNat + 1) }
          else
            { g with buffer := b, filled := true, curAddr := g.curAddr + 1, bytes := 0, irq := g.irq || g.irqEn }
        else g
      let start : Dmc :=
        if read.bitDiv.toNat = 0 then
          if read.filled then { read with bitDiv := 8, shift := read.buffer, filled := false, silence := false }
          else { read with bitDiv := 8, silence := true }
        else read
      let delta : Nat :=
        if start.silence then start.delta.toNat
        else if start.shift.toNat % 2 = 1 then
          (if start.delta.toNat < 126 then start.delta.toNat + 2 else start.delta.toNat)
        else (if 1 < start.delta.toNat then start.delta.toNat - 2 else start.delta.toNat)
      t.dmc = { start with delta := BitVec.ofNat 7 delta, shift := BitVec.ofNat 8 (start.shift.toNat / 2),
                           bitDiv := start.bitDiv - 1, timer := BitVec.ofNat 9 timer } ∧
      (fetches → t.fetches = s.fetches ++ [{ time := stamp, addr := BitVec.ofNat 16 bus }]) ∧
      (¬ fetches → t.fetches = s.fetches) ∧
      t.levels.dmc.toNat = delta ∧
      eventsOf .dmc t.events = eventsOf .dmc s.events ++
        (if delta = s.levels.dmc.toNat then []
         else [{ ch := .dmc, time := stamp, delta := (delta : Int) - s.levels.dmc.toNat }])
    (g.timer.toNat = 0 → fires s.frameTime (g.period.toNat - 1)) ∧
    (g.timer.toNat = 1 → fires (s.frameTime + 1) g.period.toNat) ∧
    (2 ≤ g.timer.toNat →
      t.dmc = { g with timer := BitVec.ofNat 9 (g.timer.toNat - 1) } ∧ t.levels.dmc = s.levels.dmc ∧
        t.fetches = s.fetches ∧ eventsOf .dmc t.events = eventsOf .dmc s.events)

/-- R262 (c): in both modes one shift maps distinct registers to distinct registers, maps only 0 to 0 and fixes
only 0. -/
def Obligations.NoiseShiftIsInjective : Prop :=
  ∀ (mode : Bool) (a b : BitVec 15),
    (lfsrNext mode a = lfsrNext mode b → a = b) ∧ (lfsrNext mode a = 0 ↔ a = 0) ∧ (lfsrNext mode a = a ↔ a = 0)

/-- R262 (a), (b): from 0x0001 the register comes back first after 32767 shifts in mode 0 and after 93 in mode 1. -/
def Obligations.NoiseSequencePeriods : Prop :=
  (lfsrNext false)^[32767] 0x0001#15 = 0x0001#15 ∧
  (∀ k, 0 < k → k < 32767 → (lfsrNext false)^[k] 0x0001#15 ≠ 0x0001#15) ∧
  (lfsrNext true)^[93] 0x0001#15 = 0x0001#15 ∧
  (∀ k, 0 < k → k < 93 → (lfsrNext true)^[k] 0x0001#15 ≠ 0x0001#15)

/-! ## The other commands -/

/-- R141, R33: RESET puts every field of the block at its reset value and keeps the domain; a second RESET
changes nothing. That the queue and the recorded outputs stay is the model's choice, log entries 4 and 5. -/
def Obligations.ResetLeavesResetValues : Prop :=
  ∀ s : State, ∃ t : State, exec .rst s = .next t ∧ exec .rst t = .next t ∧
    t = { s with
      p1 := { duty := 0, env := { loop := false, const := false, vol := 0, div := 0, level := 0 }, swEn := false,
              swPeriod := 0, swNeg := false, swShift := 0, swDiv := 0, swWritten := false, swResult := 0, period := 0,
              timer := 0, dutyStep := 0, length := 0, ctrl := false, enabled := false }
      p2 := { duty := 0, env := { loop := false, const := false, vol := 0, div := 0, level := 0 }, swEn := false,
              swPeriod := 0, swNeg := false, swShift := 0, swDiv := 0, swWritten := false, swResult := 0, period := 0,
              timer := 0, dutyStep := 0, length := 0, ctrl := false, enabled := false }
      tri := { triLoop := false, linReload := 0, linCounter := 0, halt := false, period := 0, timer := 0, step := 0,
               length := 0, ctrl := false, enabled := false }
      noi := { env := { loop := false, const := false, vol := 0, div := 0, level := 0 }, mode := false, period := 4,
               timer := 0, lfsr := 1, length := 0, ctrl := false, enabled := false }
      dmc := { irqEn := false, loop := false, period := if s.domain = .ntsc then 428 else 398,
               timer := if s.domain = .ntsc then 428 else 398, addrReg := 0, lenReg := 0, curAddr := 0, bytes := 0,
               buffer := 0, filled := false, shift := 0, bitDiv := 0, silence := false, delta := 0, irq := false }
      seqIndex := 0, seqMode := .fourStep, seqDiv := if s.domain = .ntsc then 7457 else 6927, frameTime := 0
      levels := { p1 := 0, p2 := 0, tri := 0, noi := 0, dmc := 0 } }

/-- R152, R153, R355: ENDFRAME zeroes `frame_time` and nothing else; SETCLK writes `domain` and nothing else, so that the
latched periods and the running counts stay as they were. -/
def Obligations.EndFrameAndSetClock : Prop :=
  ∀ (d : Domain) (s : State),
    exec .eof s = .next { s with frameTime := 0 } ∧ exec (.clk d) s = .next { s with domain := d }

/-- R154: GETPERIOD answers the raw period latch of its channel, zero-extended to 16 bits, and changes nothing else. -/
def Obligations.PeriodQueryAnswersLatch : Prop :=
  ∀ s : State, ∃ v1 v2 v3 v4 v5 : BitVec 16,
    exec .getpP1 s = .next { s with responses := s.responses ++ [.period v1] } ∧ v1.toNat = s.p1.period.toNat ∧
    exec .getpP2 s = .next { s with responses := s.responses ++ [.period v2] } ∧ v2.toNat = s.p2.period.toNat ∧
    exec .getpTri s = .next { s with responses := s.responses ++ [.period v3] } ∧ v3.toNat = s.tri.period.toNat ∧
    exec .getpNoi s = .next { s with responses := s.responses ++ [.period v4] } ∧ v4.toNat = s.noi.period.toNat ∧
    exec .getpDmc s = .next { s with responses := s.responses ++ [.period v5] } ∧ v5.toNat = s.dmc.period.toNat

/-- R148: `ADV 0` changes nothing, and `ADV a` then `ADV b` is the same as `ADV a+b`. -/
def Obligations.AdvanceSplitsFreely : Prop :=
  ∀ (a b : Cycles) (s : State), a.toNat + b.toNat < 2 ^ 28 →
    exec (.adv 0) s = .next s ∧
    ∃ t u : State, exec (.adv a) s = .next t ∧ exec (.adv b) t = .next u ∧ exec (.adv (a + b)) s = .next u

/-- R25 to R28 ("written by"): ADVANCE of any length leaves every latch that only a WRITE, SETCLK or RESET writes as it
was, and the enable controls, the enabled flags and the clock domain with them. -/
def Obligations.AdvanceKeepsRegisterLatches : Prop :=
  ∀ (n : Cycles) (s : State), ∃ t : State, exec (.adv n) s = .next t ∧
    (∀ p : PulseId, ∃ e : Envelope,
      e = { (s.pulse p).env with div := e.div, level := e.level } ∧
      t.pulse p = { s.pulse p with
        env := e, swDiv := (t.pulse p).swDiv, swWritten := (t.pulse p).swWritten, swResult := (t.pulse p).swResult,
        period := (t.pulse p).period, timer := (t.pulse p).timer, dutyStep := (t.pulse p).dutyStep,
        length := (t.pulse p).length }) ∧
    t.tri = { s.tri with linCounter := t.tri.linCounter, halt := t.tri.halt, timer := t.tri.timer, step := t.tri.step,
                         length := t.tri.length } ∧
    t.noi = { s.noi with env := { s.noi.env with div := t.noi.env.div, level := t.noi.env.level },
                         timer := t.noi.timer, lfsr := t.noi.lfsr, length := t.noi.length } ∧
    t.dmc = { s.dmc with timer := t.dmc.timer, curAddr := t.dmc.curAddr, bytes := t.dmc.bytes,
                         buffer := t.dmc.buffer, filled := t.dmc.filled, shift := t.dmc.shift,
                         bitDiv := t.dmc.bitDiv, silence := t.dmc.silence, delta := t.dmc.delta, irq := t.dmc.irq } ∧
    t.domain = s.domain ∧ t.seqMode = s.seqMode

/-- R151: the slicing schedule of R150 and the cycle-by-cycle ADVANCE give the same final state, the same responses and
fetches, and for each channel the same level events, from every state whose divider runs; and a split of one ADVANCE
into two is not observable either. -/
def Obligations.SlicingNotObservable : Prop :=
  ∀ (n : Cycles) (s : State), s.seqDiv.toNat ≠ 0 →
    (∃ t : State, exec (.adv n) s = .next t ∧
      (∀ c : Channel, AgreeOn c t (advanceSliced n.toNat s)) ∧ AgreeOnRest t (advanceSliced n.toNat s)) ∧
    ∀ a b : Cycles, a.toNat + b.toNat = n.toNat →
      ∃ t u : State, exec (.adv a) s = .next t ∧ exec (.adv b) t = .next u ∧ exec (.adv n) s = .next u

/-! ## Whole-machine rules -/

/-- R156: a WRITE to one of the twenty generator registers changes nothing outside its generator, neither at once nor
in any later ADVANCE. -/
def Obligations.WriteIsolatedToTarget : Prop :=
  ∀ (i : Instr) (ch : Channel), i.target = some ch → ∀ (n : Cycles) (s : State), ∃ t u v : State,
    exec i s = .next t ∧ exec (.adv n) s = .next u ∧ exec (.adv n) t = .next v ∧
      AgreeOutside ch s t ∧ AgreeOutside ch u v

/-- U2: what the sample store holds, and which free bytes it draws, reaches nothing but the sample unit's buffer, shift
register, delta counter, level and level events: not the fetch addresses and times, not the cursor, the byte count, the
IRQ flag, nor any other generator, the sequencer, the time, the clock domain, the queue or the responses. (The reset value of the draw counter, log entry 2, is of no account here.) -/
def Obligations.SampleDataReachesOnlyTheDelta : Prop :=
  ∀ (n : Cycles) (s : State) (m : Memory) (k : Nat), ∃ t u : State,
    exec (.adv n) s = .next t ∧ exec (.adv n) { s with store := m, draws := k } = .next u ∧
    u.fetches = t.fetches ∧
    u.dmc = { t.dmc with buffer := u.dmc.buffer, shift := u.dmc.shift, delta := u.dmc.delta } ∧
    (∀ c : Channel, c ≠ .dmc → AgreeOn c t u) ∧
    u.seqIndex = t.seqIndex ∧ u.seqMode = t.seqMode ∧ u.seqDiv = t.seqDiv ∧ u.frameTime = t.frameTime ∧
    u.domain = t.domain ∧ u.pending = t.pending ∧ u.responses = t.responses ∧ u.store = m

/-- The block writes no memory (spec/00_scope.md R9) and leaves the host's queue alone: after every command every address
of the sample store reads as before. -/
def Obligations.StoreAndQueueUntouched : Prop :=
  ∀ (i : Instr) (s t : State), exec i s = .next t →
    (∀ a : Nat, t.store.read a = s.store.read a) ∧ t.store = s.store ∧ t.pending = s.pending

/-- R109: WRITE, ADVANCE, RESET, ENDFRAME and SETCLK return nothing; READ and GETPERIOD return exactly one response. -/
def Obligations.ResponsesOnlyFromReadsAndQueries : Prop :=
  ∀ (i : Instr) (s t : State), exec i s = .next t →
    if (i = .rdStatus ∨ (∃ a, i = .rdUnmapped a) ∨ i = .getpP1 ∨ i = .getpP2 ∨ i = .getpTri ∨ i = .getpNoi ∨
        i = .getpDmc)
    then ∃ r : Response, t.responses = s.responses ++ [r] else t.responses = s.responses

/-- R22 ("written by"): the frame time moves only under ADVANCE, ENDFRAME and RESET, the divider only under ADVANCE and
RESET, the index only under ADVANCE, MODE and RESET, the frame mode only under MODE and RESET, the domain only under
SETCLK. -/
def Obligations.SequencerAndTimeWriters : Prop :=
  ∀ (i : Instr) (s t : State), exec i s = .next t →
    (t.frameTime ≠ s.frameTime → (∃ n, i = .adv n) ∨ i = .eof ∨ i = .rst) ∧
    (t.seqDiv ≠ s.seqDiv → (∃ n, i = .adv n) ∨ i = .rst) ∧
    (t.seqIndex ≠ s.seqIndex → (∃ n, i = .adv n) ∨ (∃ d, i = .wrMode d) ∨ i = .rst) ∧
    (t.seqMode ≠ s.seqMode → (∃ d, i = .wrMode d) ∨ i = .rst) ∧
    (t.domain ≠ s.domain → ∃ d, i = .clk d)

/-- R356, R30: `enabled` of P1, P2, TRI or NOI is set only by that generator's sub-register 3 write, and only when its
`ctrl` is already 1. -/
def Obligations.EnabledOnlyByTriggerAfterControl : Prop :=
  ∀ (i : Instr) (s t : State), exec i s = .next t →
    (s.p1.enabled = false → t.p1.enabled = true → s.p1.ctrl = true ∧ ∃ d, i = .wrP1R3 d) ∧
    (s.p2.enabled = false → t.p2.enabled = true → s.p2.ctrl = true ∧ ∃ d, i = .wrP2R3 d) ∧
    (s.tri.enabled = false → t.tri.enabled = true → s.tri.ctrl = true ∧ ∃ d, i = .wrTriR3 d) ∧
    (s.noi.enabled = false → t.noi.enabled = true → s.noi.ctrl = true ∧ ∃ d, i = .wrNoiR3 d)

/-- R322, R277: the IRQ flag is set only inside ADVANCE, with `irq_en` = 1 and `loop` = 0 and a byte left to fetch; it is
cleared only by a DMC.0 write with bit 7 = 0, a STATUS write or RESET; in particular no READ clears it. -/
def Obligations.IrqFlagSetAndCleared : Prop :=
  ∀ (i : Instr) (s t : State), exec i s = .next t →
    (s.dmc.irq = false → t.dmc.irq = true →
      (∃ n, i = .adv n) ∧ s.dmc.irqEn = true ∧ s.dmc.loop = false ∧ 0 < s.dmc.bytes.toNat ∧ t.dmc.bytes.toNat = 0) ∧
    (s.dmc.irq = true → t.dmc.irq = false →
      (∃ d : Byte, i = .wrDmcR0 d ∧ d.toNat / 2 ^ 7 = 0) ∨ (∃ d, i = .wrStatus d) ∨ i = .rst)

/-- R360, R301, R302 (d): level registers change only under ADVANCE, a DMC.1 write (the DMC register alone) and RESET;
only ADVANCE and a DMC.1 write emit a level event; RESET zeroes every level and emits none. -/
def Obligations.LevelsWrittenByAdvanceDeltaAndReset : Prop :=
  ∀ (i : Instr) (s t : State), exec i s = .next t →
    (t.levels ≠ s.levels → (∃ n, i = .adv n) ∨ (∃ d, i = .wrDmcR1 d) ∨ i = .rst) ∧
    (t.events ≠ s.events → (∃ n, i = .adv n) ∨ (∃ d, i = .wrDmcR1 d)) ∧
    ((∃ d, i = .wrDmcR1 d) → ∀ c : Channel, c ≠ .dmc → t.levels.get c = s.levels.get c) ∧
    (i = .rst → t.events = s.events ∧ ∀ c : Channel, t.levels.get c = 0)

/-- R302 (b): every command but RESET only adds to the event stream, and the changes it adds for a channel sum to the
change of that channel's level register; RESET adds none and leaves every level at 0. -/
def Obligations.EventsSumToLevels : Prop :=
  ∀ (i : Instr) (s t : State), exec i s = .next t →
    (i ≠ .rst → ∃ new : List LevelEvent, t.events = s.events ++ new ∧
      ∀ c : Channel, deltaSum c new = (t.levels.get c : Int) - s.levels.get c) ∧
    (i = .rst → t.events = s.events ∧ ∀ c : Channel, t.levels.get c = 0)

/-- R303, R304: the pin sum of the pulses is at most 30; the default transfers are monotonic and the output is between 0
and 1. That they are exact rationals is the model's choice, log entry 10. -/
def Obligations.AnalogueOutputBounded : Prop :=
  (∀ s : State, s.pin1 ≤ 30 ∧ 0 ≤ s.out ∧ s.out ≤ 1) ∧
  (∀ m n : Nat, m ≤ n → dac1 m ≤ dac1 n) ∧
  (∀ t n d t' n' d' : Nat, t ≤ t' → n ≤ n' → d ≤ d' → dac2 t n d ≤ dac2 t' n' d')

/-! ## The invariant -/

/-- The reset state satisfies the invariant. -/
def Obligations.ResetSatisfiesInvariant : Prop := State.reset.Inv

/-- R35, R23: every step keeps the invariant: counter ranges, period latches, a nonzero shift register, `enabled`
implies `ctrl`, a valid sequencer index, a running divider, and the canonical form of the sample store. -/
def Obligations.EveryStepKeepsInvariant : Prop :=
  ∀ s t : State, s.Inv → step s = .next t → t.Inv
end

