-- ==== Sys2Proof/Laws/State.lean ====
section
/-! SUPPORT. One lemma per field for every named update of State. -/

namespace Sys2Proof.Machine

section setPulse
variable (s : State) (p q : PulseId) (g : Pulse)

@[simp] theorem State.setPulse_p1_p1 : (s.setPulse .p1 g).p1 = g := rfl
@[simp] theorem State.setPulse_p1_p2 : (s.setPulse .p1 g).p2 = s.p2 := rfl
@[simp] theorem State.setPulse_p2_p1 : (s.setPulse .p2 g).p1 = s.p1 := rfl
@[simp] theorem State.setPulse_p2_p2 : (s.setPulse .p2 g).p2 = g := rfl
@[simp] theorem State.pulse_setPulse : (s.setPulse p g).pulse p = g := by cases p <;> rfl
theorem State.pulse_setPulse_of_ne (h : q ≠ p) : (s.setPulse p g).pulse q = s.pulse q := by
  cases p <;> cases q <;> first | rfl | exact absurd rfl h
@[simp] theorem State.setPulse_tri : (s.setPulse p g).tri = s.tri := by cases p <;> rfl
@[simp] theorem State.setPulse_noi : (s.setPulse p g).noi = s.noi := by cases p <;> rfl
@[simp] theorem State.setPulse_dmc : (s.setPulse p g).dmc = s.dmc := by cases p <;> rfl
@[simp] theorem State.setPulse_seqIndex : (s.setPulse p g).seqIndex = s.seqIndex := by cases p <;> rfl
@[simp] theorem State.setPulse_seqMode : (s.setPulse p g).seqMode = s.seqMode := by cases p <;> rfl
@[simp] theorem State.setPulse_seqDiv : (s.setPulse p g).seqDiv = s.seqDiv := by cases p <;> rfl
@[simp] theorem State.setPulse_domain : (s.setPulse p g).domain = s.domain := by cases p <;> rfl
@[simp] theorem State.setPulse_frameTime : (s.setPulse p g).frameTime = s.frameTime := by cases p <;> rfl
@[simp] theorem State.setPulse_levels : (s.setPulse p g).levels = s.levels := by cases p <;> rfl
@[simp] theorem State.setPulse_store : (s.setPulse p g).store = s.store := by cases p <;> rfl
@[simp] theorem State.setPulse_draws : (s.setPulse p g).draws = s.draws := by cases p <;> rfl
@[simp] theorem State.setPulse_pending : (s.setPulse p g).pending = s.pending := by cases p <;> rfl
@[simp] theorem State.setPulse_responses : (s.setPulse p g).responses = s.responses := by cases p <;> rfl
@[simp] theorem State.setPulse_events : (s.setPulse p g).events = s.events := by cases p <;> rfl
@[simp] theorem State.setPulse_fetches : (s.setPulse p g).fetches = s.fetches := by cases p <;> rfl

end setPulse

section emit
variable (s : State) (e : LevelEvent)

@[simp] theorem State.emit_p1 : (s.emit e).p1 = s.p1 := rfl
@[simp] theorem State.emit_p2 : (s.emit e).p2 = s.p2 := rfl
@[simp] theorem State.emit_tri : (s.emit e).tri = s.tri := rfl
@[simp] theorem State.emit_noi : (s.emit e).noi = s.noi := rfl
@[simp] theorem State.emit_dmc : (s.emit e).dmc = s.dmc := rfl
@[simp] theorem State.emit_seqIndex : (s.emit e).seqIndex = s.seqIndex := rfl
@[simp] theorem State.emit_seqMode : (s.emit e).seqMode = s.seqMode := rfl
@[simp] theorem State.emit_seqDiv : (s.emit e).seqDiv = s.seqDiv := rfl
@[simp] theorem State.emit_domain : (s.emit e).domain = s.domain := rfl
@[simp] theorem State.emit_frameTime : (s.emit e).frameTime = s.frameTime := rfl
@[simp] theorem State.emit_levels : (s.emit e).levels = s.levels := rfl
@[simp] theorem State.emit_store : (s.emit e).store = s.store := rfl
@[simp] theorem State.emit_draws : (s.emit e).draws = s.draws := rfl
@[simp] theorem State.emit_pending : (s.emit e).pending = s.pending := rfl
@[simp] theorem State.emit_responses : (s.emit e).responses = s.responses := rfl
@[simp] theorem State.emit_events : (s.emit e).events = s.events ++ [e] := rfl
@[simp] theorem State.emit_fetches : (s.emit e).fetches = s.fetches := rfl

end emit

section respond
variable (s : State) (r : Response)

@[simp] theorem State.respond_p1 : (s.respond r).p1 = s.p1 := rfl
@[simp] theorem State.respond_p2 : (s.respond r).p2 = s.p2 := rfl
@[simp] theorem State.respond_tri : (s.respond r).tri = s.tri := rfl
@[simp] theorem State.respond_noi : (s.respond r).noi = s.noi := rfl
@[simp] theorem State.respond_dmc : (s.respond r).dmc = s.dmc := rfl
@[simp] theorem State.respond_seqIndex : (s.respond r).seqIndex = s.seqIndex := rfl
@[simp] theorem State.respond_seqMode : (s.respond r).seqMode = s.seqMode := rfl
@[simp] theorem State.respond_seqDiv : (s.respond r).seqDiv = s.seqDiv := rfl
@[simp] theorem State.respond_domain : (s.respond r).domain = s.domain := rfl
@[simp] theorem State.respond_frameTime : (s.respond r).frameTime = s.frameTime := rfl
@[simp] theorem State.respond_levels : (s.respond r).levels = s.levels := rfl
@[simp] theorem State.respond_store : (s.respond r).store = s.store := rfl
@[simp] theorem State.respond_draws : (s.respond r).draws = s.draws := rfl
@[simp] theorem State.respond_pending : (s.respond r).pending = s.pending := rfl
@[simp] theorem State.respond_responses : (s.respond r).responses = s.responses ++ [r] := rfl
@[simp] theorem State.respond_events : (s.respond r).events = s.events := rfl
@[simp] theorem State.respond_fetches : (s.respond r).fetches = s.fetches := rfl

end respond

section noteFetch
variable (t : Time) (a : Addr) (s : State)

@[simp] theorem State.noteFetch_p1 : (noteFetch t a s).p1 = s.p1 := rfl
@[simp] theorem State.noteFetch_p2 : (noteFetch t a s).p2 = s.p2 := rfl
@[simp] theorem State.noteFetch_tri : (noteFetch t a s).tri = s.tri := rfl
@[simp] theorem State.noteFetch_noi : (noteFetch t a s).noi = s.noi := rfl
@[simp] theorem State.noteFetch_dmc : (noteFetch t a s).dmc = s.dmc := rfl
@[simp] theorem State.noteFetch_seqIndex : (noteFetch t a s).seqIndex = s.seqIndex := rfl
@[simp] theorem State.noteFetch_seqMode : (noteFetch t a s).seqMode = s.seqMode := rfl
@[simp] theorem State.noteFetch_seqDiv : (noteFetch t a s).seqDiv = s.seqDiv := rfl
@[simp] theorem State.noteFetch_domain : (noteFetch t a s).domain = s.domain := rfl
@[simp] theorem State.noteFetch_frameTime : (noteFetch t a s).frameTime = s.frameTime := rfl
@[simp] theorem State.noteFetch_levels : (noteFetch t a s).levels = s.levels := rfl
@[simp] theorem State.noteFetch_store : (noteFetch t a s).store = s.store := rfl
@[simp] theorem State.noteFetch_pending : (noteFetch t a s).pending = s.pending := rfl
@[simp] theorem State.noteFetch_responses : (noteFetch t a s).responses = s.responses := rfl
@[simp] theorem State.noteFetch_events : (noteFetch t a s).events = s.events := rfl
@[simp] theorem State.noteFetch_fetches : (noteFetch t a s).fetches = s.fetches ++ [{ time := t, addr := a }] := rfl

end noteFetch

section setLevel
variable (ch : Channel) (v : Nat) (t : Time) (s : State)

@[simp] theorem State.setLevel_p1 : (setLevel ch v t s).p1 = s.p1 := by unfold setLevel; split <;> rfl
@[simp] theorem State.setLevel_p2 : (setLevel ch v t s).p2 = s.p2 := by unfold setLevel; split <;> rfl
@[simp] theorem State.setLevel_tri : (setLevel ch v t s).tri = s.tri := by unfold setLevel; split <;> rfl
@[simp] theorem State.setLevel_noi : (setLevel ch v t s).noi = s.noi := by unfold setLevel; split <;> rfl
@[simp] theorem State.setLevel_dmc : (setLevel ch v t s).dmc = s.dmc := by unfold setLevel; split <;> rfl
@[simp] theorem State.setLevel_seqIndex : (setLevel ch v t s).seqIndex = s.seqIndex := by unfold setLevel; split <;> rfl
@[simp] theorem State.setLevel_seqMode : (setLevel ch v t s).seqMode = s.seqMode := by unfold setLevel; split <;> rfl
@[simp] theorem State.setLevel_seqDiv : (setLevel ch v t s).seqDiv = s.seqDiv := by unfold setLevel; split <;> rfl
@[simp] theorem State.setLevel_domain : (setLevel ch v t s).domain = s.domain := by unfold setLevel; split <;> rfl
@[simp] theorem State.setLevel_frameTime : (setLevel ch v t s).frameTime = s.frameTime := by unfold setLevel; split <;> rfl
@[simp] theorem State.setLevel_store : (setLevel ch v t s).store = s.store := by unfold setLevel; split <;> rfl
@[simp] theorem State.setLevel_draws : (setLevel ch v t s).draws = s.draws := by unfold setLevel; split <;> rfl
@[simp] theorem State.setLevel_pending : (setLevel ch v t s).pending = s.pending := by unfold setLevel; split <;> rfl
@[simp] theorem State.setLevel_responses : (setLevel ch v t s).responses = s.responses := by unfold setLevel; split <;> rfl
@[simp] theorem State.setLevel_fetches : (setLevel ch v t s).fetches = s.fetches := by unfold setLevel; split <;> rfl

end setLevel

@[simp] theorem State.pulse_setLevel (ch : Channel) (v : Nat) (t : Time) (s : State) (p : PulseId) :
    (setLevel ch v t s).pulse p = s.pulse p := by cases p <;> simp [State.pulse]

section resetBlock
variable (s : State)

@[simp] theorem State.resetBlock_p1 : (resetBlock s).p1 = (State.afterReset s.domain).p1 := rfl
@[simp] theorem State.resetBlock_p2 : (resetBlock s).p2 = (State.afterReset s.domain).p2 := rfl
@[simp] theorem State.resetBlock_tri : (resetBlock s).tri = (State.afterReset s.domain).tri := rfl
@[simp] theorem State.resetBlock_noi : (resetBlock s).noi = (State.afterReset s.domain).noi := rfl
@[simp] theorem State.resetBlock_dmc : (resetBlock s).dmc = (State.afterReset s.domain).dmc := rfl
@[simp] theorem State.resetBlock_seqIndex : (resetBlock s).seqIndex = (State.afterReset s.domain).seqIndex := rfl
@[simp] theorem State.resetBlock_seqMode : (resetBlock s).seqMode = (State.afterReset s.domain).seqMode := rfl
@[simp] theorem State.resetBlock_seqDiv : (resetBlock s).seqDiv = (State.afterReset s.domain).seqDiv := rfl
@[simp] theorem State.resetBlock_domain : (resetBlock s).domain = (State.afterReset s.domain).domain := rfl
@[simp] theorem State.resetBlock_frameTime : (resetBlock s).frameTime = (State.afterReset s.domain).frameTime := rfl
@[simp] theorem State.resetBlock_levels : (resetBlock s).levels = (State.afterReset s.domain).levels := rfl
@[simp] theorem State.resetBlock_store : (resetBlock s).store = s.store := rfl
@[simp] theorem State.resetBlock_draws : (resetBlock s).draws = s.draws := rfl
@[simp] theorem State.resetBlock_pending : (resetBlock s).pending = s.pending := rfl
@[simp] theorem State.resetBlock_responses : (resetBlock s).responses = s.responses := rfl
@[simp] theorem State.resetBlock_events : (resetBlock s).events = s.events := rfl
@[simp] theorem State.resetBlock_fetches : (resetBlock s).fetches = s.fetches := rfl

end resetBlock

end Sys2Proof.Machine
end

