-- ==== Sys2Proof/Laws/Ops.lean ====
section
/-! SUPPORT. What each shared operation can do: bounds of the parameterised widths, level registers, SetLevel, the event streams, the length counter and the
timer scheme. -/

namespace Sys2Proof.Machine

/-! ## Bounds of the parameterised widths, as numerals (R5) -/

theorem Time.toNat_lt (t : Time) : t.toNat < 2 ^ 32 := t.isLt
theorem Addr.toNat_lt (a : Addr) : a.toNat < 2 ^ 16 := a.isLt
theorem Period.toNat_lt (p : Period) : p.toNat < 2 ^ 11 := p.isLt

/-- Frame time counts modulo `2^TIME_W` (R149). -/
theorem Time.toNat_add_one (t : Time) : (t + 1).toNat = (t.toNat + 1) % 2 ^ 32 := BitVec.toNat_add t 1

/-! ## The analogue output (R304) -/

theorem State.out_eq (s : State) : s.out = dac1 s.pin1 + dac2 s.levels.tri.toNat s.levels.noi.toNat s.levels.dmc.toNat :=
  rfl

/-! ## Level registers -/

/-- The values a level register can hold (spec/10_state.md R29). -/
def Channel.levelMax : Channel → Nat
  | .dmc => 127
  | .p1 | .p2 | .tri | .noi => 15

@[simp] theorem Levels.get_set_same (l : Levels) (ch : Channel) (v : Nat) (h : v ≤ Channel.levelMax ch) :
    (l.set ch v).get ch = v := by
  cases ch <;> simp only [Levels.set, Levels.get, BitVec.toNat_ofNat, Channel.levelMax] at * <;> omega

@[simp] theorem Levels.get_set_other (l : Levels) (ch c : Channel) (v : Nat) (h : c ≠ ch) :
    (l.set ch v).get c = l.get c := by
  cases ch <;> cases c <;> first | rfl | exact absurd rfl h

theorem Levels.get_le (l : Levels) (ch : Channel) : l.get ch ≤ Channel.levelMax ch := by
  cases ch <;> simp only [Levels.get, Channel.levelMax] <;> omega

/-! ## Event streams -/

@[simp] theorem eventsOf_nil (ch : Channel) : eventsOf ch [] = [] := rfl

@[simp] theorem eventsOf_append (ch : Channel) (a b : List LevelEvent) :
    eventsOf ch (a ++ b) = eventsOf ch a ++ eventsOf ch b := List.filter_append ..

@[simp] theorem eventsOf_single_same (e : LevelEvent) : eventsOf e.ch [e] = [e] := by simp [eventsOf]

@[simp] theorem eventsOf_single_other (ch : Channel) (e : LevelEvent) (h : e.ch ≠ ch) : eventsOf ch [e] = [] := by
  simp [eventsOf, h]

@[simp] theorem deltaSum_nil (ch : Channel) : deltaSum ch [] = 0 := rfl

@[simp] theorem deltaSum_append (ch : Channel) (a b : List LevelEvent) :
    deltaSum ch (a ++ b) = deltaSum ch a + deltaSum ch b := by simp [deltaSum]

/-! ## SetLevel (R301) -/

/-- The events a SetLevel call emits: none when the register already holds the level. -/
def levelChange (ch : Channel) (v : Nat) (t : Time) (s : State) : List LevelEvent :=
  if v = s.levels.get ch then [] else [{ ch := ch, time := t, delta := (v : Int) - (s.levels.get ch : Int) }]

@[simp] theorem setLevel_events (ch : Channel) (v : Nat) (t : Time) (s : State) :
    (setLevel ch v t s).events = s.events ++ levelChange ch v t s := by
  unfold setLevel levelChange; split <;> simp [State.emit]

@[simp] theorem setLevel_get_same (ch : Channel) (v : Nat) (t : Time) (s : State) (h : v ≤ Channel.levelMax ch) :
    (setLevel ch v t s).levels.get ch = v := by
  unfold setLevel; split
  · exact Eq.symm ‹_›
  · simp [h]

@[simp] theorem setLevel_get_other (ch c : Channel) (v : Nat) (t : Time) (s : State) (h : c ≠ ch) :
    (setLevel ch v t s).levels.get c = s.levels.get c := by
  unfold setLevel; split <;> simp [h]

@[simp] theorem eventsOf_levelChange_other (ch c : Channel) (v : Nat) (t : Time) (s : State) (h : c ≠ ch) :
    eventsOf c (levelChange ch v t s) = [] := by
  unfold levelChange; split
  · rfl
  · exact eventsOf_single_other _ _ (Ne.symm h)

@[simp] theorem eventsOf_levelChange_same (ch : Channel) (v : Nat) (t : Time) (s : State) :
    eventsOf ch (levelChange ch v t s) = levelChange ch v t s := by
  unfold levelChange; split
  · rfl
  · simp [eventsOf]

/-- The changes a SetLevel call emits add up to the change of its level register (R302 b). -/
theorem deltaSum_levelChange (ch : Channel) (v : Nat) (t : Time) (s : State) :
    deltaSum ch (levelChange ch v t s) = (v : Int) - s.levels.get ch := by
  unfold deltaSum; rw [eventsOf_levelChange_same]; unfold levelChange; split
  · next h => simp [h]
  · simp

/-! ## Length counters -/

/-- A length counter moves down by one, or holds when halted, and stops at 0 (R199). -/
theorem toNat_clockLength (halt : Bool) (n : BitVec 8) :
    (clockLength halt n).toNat = if halt then n.toNat else n.toNat - 1 := by
  unfold clockLength
  cases halt with
  | true => simp
  | false =>
    by_cases h : n = 0
    · simp [h]
    · have h' : n.toNat ≠ 0 := fun e => h (BitVec.eq_of_toNat_eq (by simpa using e))
      simp only [Bool.not_false, Bool.true_and, decide_eq_true h, if_true, Bool.false_eq_true, if_false]
      have := n.isLt
      rw [BitVec.toNat_sub]
      simp
      omega

/-! ## The timer scheme -/

section countCycle
variable {n : Nat} {timer : State → BitVec n} {setTimer : State → BitVec n → State} {fire : Time → State → State}

/-- Whatever relation to the starting state both the timer update and the fire keep, a timer cycle keeps. -/
theorem countCycle_keeps (R : State → State → Prop) (refl : ∀ s, R s s) (trans : ∀ a b c, R a b → R b c → R a c)
    (hset : ∀ s k, R s (setTimer s k)) (hfire : ∀ t s, R s (fire t s)) (now : Time) (s : State) :
    R s (countCycle timer setTimer fire now s) := by
  unfold countCycle
  have h1 : R s (if timer s = 0 then fire now s else s) := by
    split
    · exact hfire _ _
    · exact refl _
  simp only
  generalize (if timer s = 0 then fire now s else s) = due at h1 ⊢
  have h2 := trans _ _ _ h1 (hset due (timer due - 1))
  split
  · exact trans _ _ _ h2 (hfire _ _)
  · exact h2

end countCycle

end Sys2Proof.Machine
end

