-- ==== Sys2Proof/Laws/Cycle.lean ====
section
/-! SUPPORT. What one master cycle of one generator can touch (spec/40_host_commands.md R149, R156): its own fields, its
own level register, its own events, and for the sample unit the fetch record and the draws. -/

namespace Sys2Proof
open Machine

/-! ## Agreement outside one generator -/

theorem AgreeOutside.refl (ch : Channel) (a : State) : AgreeOutside ch a a := by
  refine ⟨fun c _ => ⟨?_, rfl, rfl⟩, rfl, rfl, rfl, rfl, rfl, rfl, rfl, rfl⟩
  cases c <;> simp [SameGenerator]

theorem AgreeOutside.trans {ch : Channel} {a b c : State} (h1 : AgreeOutside ch a b) (h2 : AgreeOutside ch b c) :
    AgreeOutside ch a c := by
  obtain ⟨g1, r1⟩ := h1
  obtain ⟨g2, r2⟩ := h2
  refine ⟨fun d hd => ?_, ?_⟩
  · obtain ⟨x1, y1, z1⟩ := g1 d hd
    obtain ⟨x2, y2, z2⟩ := g2 d hd
    refine ⟨?_, y1.trans y2, z1.trans z2⟩
    cases d <;> simp only [SameGenerator] at * <;> simp_all
  · unfold AgreeOnRest at *; simp_all

/-- SetLevel touches only its channel. -/
theorem setLevel_agreeOutside (ch : Channel) (v : Nat) (t : Time) (s : State) :
    AgreeOutside ch s (setLevel ch v t s) := by
  refine ⟨fun c hc => ⟨?_, ?_, ?_⟩, ?_⟩
  · cases c <;> simp [SameGenerator]
  · simp [hc]
  · simp [hc]
  · simp [AgreeOnRest]

/-! ## Replacing one generator's fields touches only that generator -/

theorem setPulse_agreeOutside (p : PulseId) (g : Pulse) (s : State) : AgreeOutside p.channel s (s.setPulse p g) := by
  refine ⟨fun c hc => ⟨?_, by simp, by simp⟩, by simp [AgreeOnRest]⟩
  cases p <;> cases c <;> first | exact absurd rfl hc | simp [SameGenerator]

theorem setTri_agreeOutside (g : Triangle) (s : State) : AgreeOutside .tri s { s with tri := g } := by
  refine ⟨fun c hc => ⟨?_, rfl, rfl⟩, by simp [AgreeOnRest]⟩
  cases c <;> first | exact absurd rfl hc | simp [SameGenerator]

theorem setNoise_agreeOutside (g : Noise) (s : State) : AgreeOutside .noi s { s with noi := g } := by
  refine ⟨fun c hc => ⟨?_, rfl, rfl⟩, by simp [AgreeOnRest]⟩
  cases c <;> first | exact absurd rfl hc | simp [SameGenerator]

theorem setDmc_agreeOutside (g : Dmc) (s : State) : AgreeOutside .dmc s { s with dmc := g } := by
  refine ⟨fun c hc => ⟨?_, rfl, rfl⟩, by simp [AgreeOnRest]⟩
  cases c <;> first | exact absurd rfl hc | simp [SameGenerator]

theorem noteFetch_agreeOutside (t : Time) (a : Addr) (s : State) : AgreeOutside .dmc s (noteFetch t a s) := by
  refine ⟨fun c hc => ⟨?_, by simp, by simp⟩, by simp [AgreeOnRest]⟩
  cases c <;> first | exact absurd rfl hc | simp [SameGenerator]

/-! ## Fires and cycles -/

theorem firePulse_agreeOutside (p : PulseId) (t : Time) (s : State) : AgreeOutside p.channel s (firePulse p t s) :=
  (setLevel_agreeOutside _ _ _ _).trans (setPulse_agreeOutside _ _ _)

theorem firePulseReload_agreeOutside (p : PulseId) (t : Time) (s : State) :
    AgreeOutside p.channel s (firePulseReload p t s) :=
  (firePulse_agreeOutside p t s).trans (setPulse_agreeOutside _ _ _)

theorem fireTriReload_agreeOutside (t : Time) (s : State) : AgreeOutside .tri s (fireTriReload t s) :=
  ((setLevel_agreeOutside _ _ _ _).trans (setTri_agreeOutside _ _)).trans (setTri_agreeOutside _ _)

theorem triUltrasonic_agreeOutside (now : Time) (s : State) : AgreeOutside .tri s (triUltrasonic now s) :=
  (setLevel_agreeOutside _ _ _ _).trans (setTri_agreeOutside _ _)

theorem fireNoiseReload_agreeOutside (t : Time) (s : State) : AgreeOutside .noi s (fireNoiseReload t s) :=
  ((setLevel_agreeOutside _ _ _ _).trans (setNoise_agreeOutside _ _)).trans (setNoise_agreeOutside _ _)

theorem dmcReader_agreeOutside (t : Time) (s : State) : AgreeOutside .dmc s (dmcReader t s) := by
  unfold dmcReader; split
  · exact (noteFetch_agreeOutside _ _ _).trans (setDmc_agreeOutside _ _)
  · exact .refl _ _

theorem dmcOutput_agreeOutside (t : Time) (s : State) : AgreeOutside .dmc s (dmcOutput t s) :=
  (setDmc_agreeOutside _ _).trans (setLevel_agreeOutside _ _ _ _)

theorem fireDmcReload_agreeOutside (t : Time) (s : State) : AgreeOutside .dmc s (fireDmcReload t s) :=
  ((dmcReader_agreeOutside t s).trans (dmcOutput_agreeOutside _ _)).trans (setDmc_agreeOutside _ _)

theorem pulseCycle_agreeOutside (p : PulseId) (now : Time) (s : State) :
    AgreeOutside p.channel s (pulseCycle p now s) := by
  unfold pulseCycle; split
  · exact .refl _ _
  · exact countCycle_keeps (AgreeOutside _) (AgreeOutside.refl _) (fun _ _ _ h h' => AgreeOutside.trans h h') (fun _ _ => setPulse_agreeOutside _ _ _)
      (firePulseReload_agreeOutside p) _ _

/-- One master cycle of generator `ch` leaves everything outside `ch` as it was. -/
theorem genCycle_agreeOutside (ch : Channel) (now : Time) (s : State) : AgreeOutside ch s (genCycle ch now s) := by
  cases ch with
  | p1 => exact pulseCycle_agreeOutside .p1 now s
  | p2 => exact pulseCycle_agreeOutside .p2 now s
  | tri =>
    show AgreeOutside .tri s (triCycle now s)
    unfold triCycle; split
    · exact .refl _ _
    split
    · exact triUltrasonic_agreeOutside _ _
    · exact countCycle_keeps (AgreeOutside _) (AgreeOutside.refl _) (fun _ _ _ h h' => AgreeOutside.trans h h') (fun _ _ => setTri_agreeOutside _ _)
        fireTriReload_agreeOutside _ _
  | noi =>
    exact countCycle_keeps (AgreeOutside _) (AgreeOutside.refl _) (fun _ _ _ h h' => AgreeOutside.trans h h') (fun _ _ => setNoise_agreeOutside _ _)
      fireNoiseReload_agreeOutside _ _
  | dmc =>
    exact countCycle_keeps (AgreeOutside _) (AgreeOutside.refl _) (fun _ _ _ h h' => AgreeOutside.trans h h') (fun _ _ => setDmc_agreeOutside _ _)
      fireDmcReload_agreeOutside _ _

/-- The generator steps of a cycle leave everything that is no generator's as it was. -/
theorem generatorsCycle_agreeOnRest (now : Time) (s : State) : AgreeOnRest s (generatorsCycle now s) := by
  have h1 := (genCycle_agreeOutside .p1 now s).2
  have h2 := (genCycle_agreeOutside .p2 now (genCycle .p1 now s)).2
  have h3 := (genCycle_agreeOutside .tri now (genCycle .p2 now (genCycle .p1 now s))).2
  have h4 := (genCycle_agreeOutside .noi now (genCycle .tri now (genCycle .p2 now (genCycle .p1 now s)))).2
  have h5 := (genCycle_agreeOutside .dmc now
    (genCycle .noi now (genCycle .tri now (genCycle .p2 now (genCycle .p1 now s))))).2
  unfold generatorsCycle
  unfold AgreeOnRest at *
  simp_all

/-! ## ADVANCE -/

@[simp] theorem advance_zero (s : State) : advance 0 s = s := rfl

theorem advance_succ (n : Nat) (s : State) : advance (n + 1) s = advance n (cycle s) := rfl

/-- Whatever relation to the starting state one cycle keeps, ADVANCE keeps. -/
theorem advance_keeps (R : State → State → Prop) (refl : ∀ s, R s s) (trans : ∀ a b c, R a b → R b c → R a c)
    (hcycle : ∀ s, R s (cycle s)) (n : Nat) : ∀ s, R s (advance n s) := by
  induction n with
  | zero => exact refl
  | succ n ih => intro s; exact trans _ _ _ (hcycle s) (ih (cycle s))

/-- Whatever holds of a state and is kept by one cycle holds after ADVANCE. -/
theorem advance_preserves (P : State → Prop) (hcycle : ∀ s, P s → P (cycle s)) (n : Nat) :
    ∀ s, P s → P (advance n s) := by
  induction n with
  | zero => intro s h; exact h
  | succ n ih => intro s h; exact ih _ (hcycle s h)

/-! ## Ticks and the sequencer step -/

section runTicks
variable (f sl r : Bool) (s : State)

@[simp] theorem runTicks_seqIndex : (runTicks f sl r s).seqIndex = s.seqIndex := by
  cases f <;> cases sl <;> cases r <;> rfl
@[simp] theorem runTicks_seqMode : (runTicks f sl r s).seqMode = s.seqMode := by
  cases f <;> cases sl <;> cases r <;> rfl
@[simp] theorem runTicks_seqDiv : (runTicks f sl r s).seqDiv = s.seqDiv := by
  cases f <;> cases sl <;> cases r <;> rfl
@[simp] theorem runTicks_domain : (runTicks f sl r s).domain = s.domain := by
  cases f <;> cases sl <;> cases r <;> rfl
@[simp] theorem runTicks_frameTime : (runTicks f sl r s).frameTime = s.frameTime := by
  cases f <;> cases sl <;> cases r <;> rfl
@[simp] theorem runTicks_levels : (runTicks f sl r s).levels = s.levels := by
  cases f <;> cases sl <;> cases r <;> rfl
@[simp] theorem runTicks_store : (runTicks f sl r s).store = s.store := by
  cases f <;> cases sl <;> cases r <;> rfl
@[simp] theorem runTicks_draws : (runTicks f sl r s).draws = s.draws := by
  cases f <;> cases sl <;> cases r <;> rfl
@[simp] theorem runTicks_pending : (runTicks f sl r s).pending = s.pending := by
  cases f <;> cases sl <;> cases r <;> rfl
@[simp] theorem runTicks_responses : (runTicks f sl r s).responses = s.responses := by
  cases f <;> cases sl <;> cases r <;> rfl
@[simp] theorem runTicks_events : (runTicks f sl r s).events = s.events := by
  cases f <;> cases sl <;> cases r <;> rfl
@[simp] theorem runTicks_fetches : (runTicks f sl r s).fetches = s.fetches := by
  cases f <;> cases sl <;> cases r <;> rfl
@[simp] theorem runTicks_dmc : (runTicks f sl r s).dmc = s.dmc := by
  cases f <;> cases sl <;> cases r <;> rfl

end runTicks

/-- The divider step either only counts, or reloads and takes a sequencer step (R172). -/
theorem clockSequencer_cases (s : State) :
    (s.seqDiv - 1 ≠ 0 ∧ clockSequencer s = { s with seqDiv := s.seqDiv - 1 }) ∨
      (s.seqDiv - 1 = 0 ∧ clockSequencer s = seqStep { s with seqDiv := seqPeriod s.domain }) := by
  by_cases h : s.seqDiv - 1 = 0
  · exact .inr ⟨h, if_pos h⟩
  · exact .inl ⟨h, if_neg h⟩

/-- Both forms of WR.MODE answer a next state (R171). -/
theorem execWrMode_next (d : Byte) (s : State) : ∃ t, execWrMode d s = .next t := by
  unfold execWrMode; split <;> exact ⟨_, rfl⟩

end Sys2Proof
end

