-- ==== Sys2Proof/Laws/Decode.lean ====
section
/-! SUPPORT. The fields of each word format (spec/30_encoding.md R101 to R106): reading a field of a packed word gives
what was packed. -/

namespace Sys2Proof
open Machine

section fields

/-! ## Bits of the packed words -/

/-- Format W, bit by bit (R101). -/
theorem getLsbD_writeWord (a : Addr) (d : Byte) (i : Nat) : (writeWord a d).getLsbD i =
    if i < 8 then d.getLsbD i else if i < 24 then a.getLsbD (i - 8) else (0x10#8).getLsbD (i - 24) := by
  show (0x1#4 ++ 0#4 ++ a ++ d : BitVec (4 + 4 + 16 + 8)).getLsbD i = _
  rw [BitVec.getLsbD_append, BitVec.getLsbD_append]
  by_cases h8 : i < 8
  · simp [h8]
  by_cases h24 : i < 24
  · simp [h8, h24, show i - 8 < 16 by omega]
  · simp only [h8, h24, if_false, show ¬ i - 8 < 16 by omega, show i - 8 - 16 = i - 24 by omega]
    rfl

/-- Format R, bit by bit (R102). -/
theorem getLsbD_readWord (a : Addr) (i : Nat) : (readWord a).getLsbD i =
    if i < 8 then false else if i < 24 then a.getLsbD (i - 8) else (0x20#8).getLsbD (i - 24) := by
  show (0x2#4 ++ 0#4 ++ a ++ 0#8 : BitVec (4 + 4 + 16 + 8)).getLsbD i = _
  rw [BitVec.getLsbD_append, BitVec.getLsbD_append]
  by_cases h8 : i < 8
  · simp [h8]
  by_cases h24 : i < 24
  · simp [h8, h24, show i - 8 < 16 by omega]
  · simp only [h8, h24, if_false, show ¬ i - 8 < 16 by omega, show i - 8 - 16 = i - 24 by omega]
    rfl

/-- Format A, bit by bit (R103). -/
theorem getLsbD_advanceWord (n : Cycles) (i : Nat) : (advanceWord n).getLsbD i =
    if i < 28 then n.getLsbD i else (0x3#4).getLsbD (i - 28) := by
  show (0x3#4 ++ n : BitVec (4 + 28)).getLsbD i = _
  rw [BitVec.getLsbD_append]

/-! ## Fields of the packed words -/

/-- Format W (R101). -/
@[simp] theorem opField_writeWord (a : Addr) (d : Byte) : opField (writeWord a d) = 1#4 := by
  apply BitVec.eq_of_getLsbD_eq; intro i hi
  rw [opField, BitVec.getLsbD_extractLsb', getLsbD_writeWord]
  interval_cases i <;> simp
@[simp] theorem zeroField_writeWord (a : Addr) (d : Byte) : zeroField (writeWord a d) = 0#4 := by
  apply BitVec.eq_of_getLsbD_eq; intro i hi
  rw [zeroField, BitVec.getLsbD_extractLsb', getLsbD_writeWord]
  interval_cases i <;> simp
@[simp] theorem addrField_writeWord (a : Addr) (d : Byte) : addrField (writeWord a d) = a := by
  apply BitVec.eq_of_getLsbD_eq; intro i hi
  rw [addrField, BitVec.getLsbD_extractLsb', getLsbD_writeWord]
  interval_cases i <;> simp
@[simp] theorem dataField_writeWord (a : Addr) (d : Byte) : dataField (writeWord a d) = d := by
  apply BitVec.eq_of_getLsbD_eq; intro i hi
  rw [dataField, BitVec.getLsbD_extractLsb', getLsbD_writeWord]
  interval_cases i <;> simp

/-- Format R (R102). -/
@[simp] theorem opField_readWord (a : Addr) : opField (readWord a) = 2#4 := by
  apply BitVec.eq_of_getLsbD_eq; intro i hi
  rw [opField, BitVec.getLsbD_extractLsb', getLsbD_readWord]
  interval_cases i <;> simp
@[simp] theorem zeroField_readWord (a : Addr) : zeroField (readWord a) = 0#4 := by
  apply BitVec.eq_of_getLsbD_eq; intro i hi
  rw [zeroField, BitVec.getLsbD_extractLsb', getLsbD_readWord]
  interval_cases i <;> simp
@[simp] theorem addrField_readWord (a : Addr) : addrField (readWord a) = a := by
  apply BitVec.eq_of_getLsbD_eq; intro i hi
  rw [addrField, BitVec.getLsbD_extractLsb', getLsbD_readWord]
  interval_cases i <;> simp
@[simp] theorem dataField_readWord (a : Addr) : dataField (readWord a) = 0#8 := by
  apply BitVec.eq_of_getLsbD_eq; intro i hi
  rw [dataField, BitVec.getLsbD_extractLsb', getLsbD_readWord]
  interval_cases i <;> simp

/-- Format A (R103). -/
@[simp] theorem opField_advanceWord (n : Cycles) : opField (advanceWord n) = 3#4 := by
  apply BitVec.eq_of_getLsbD_eq; intro i hi
  rw [opField, BitVec.getLsbD_extractLsb', getLsbD_advanceWord]
  interval_cases i <;> simp
@[simp] theorem lowField_advanceWord (n : Cycles) : lowField (advanceWord n) = n := by
  apply BitVec.eq_of_getLsbD_eq; intro i hi
  rw [lowField, BitVec.getLsbD_extractLsb', getLsbD_advanceWord]
  interval_cases i <;> simp

/-- Format Z (R104). -/
@[simp] theorem opField_plainWord (op : BitVec 4) : opField (plainWord op) = op := by revert op; decide
@[simp] theorem lowField_plainWord (op : BitVec 4) : lowField (plainWord op) = 0 := by revert op; decide

/-- Format C (R105). -/
@[simp] theorem opField_setClockWord (d : Domain) : opField (setClockWord d) = 6#4 := by cases d <;> decide
@[simp] theorem zeroFieldC_setClockWord (d : Domain) : zeroFieldC (setClockWord d) = 0 := by cases d <;> decide
@[simp] theorem domainField_setClockWord (d : Domain) : domainField (setClockWord d) = d := by cases d <;> decide

/-- Format Q (R106). -/
@[simp] theorem opField_getPeriodWord (c : BitVec 3) : opField (getPeriodWord c) = 7#4 := by revert c; decide
@[simp] theorem zeroFieldQ_getPeriodWord (c : BitVec 3) : zeroFieldQ (getPeriodWord c) = 0 := by revert c; decide
@[simp] theorem channelField_getPeriodWord (c : BitVec 3) : channelField (getPeriodWord c) = c := by revert c; decide

end fields

/-- The window is 0x4000 to 0x401F (R71, R142). -/
theorem inWindow_iff (a : Addr) : inWindow a = true ↔ 0x4000 ≤ a.toNat ∧ a.toNat ≤ 0x401F := by
  have hbase : chip.windowBase.toNat = 0x4000 := rfl
  have hsize : chip.windowSize = 32 := rfl
  simp only [inWindow, hbase, hsize, Bool.and_eq_true, decide_eq_true_eq]
  omega

/-- The register decoder finds its way back from the bus address of a window offset (R142). -/
theorem writeCommand_windowAddr (off : BitVec 5) (d : Byte) : writeCommand (windowAddr off) d = windowWrite off d := by
  have h : inWindow (windowAddr off) = true ∧ ((windowAddr off) - chip.windowBase).setWidth 5 = off := by
    revert off; decide
  simp [writeCommand, h.1, h.2]

end Sys2Proof
end

