-- ==== Sys2Proof/Laws/Memory.lean ====
section
/-! SUPPORT. The sample store: every operation on it keeps the canonical form, and what a read gives after a load or a
clear (spec/20_memory.md R77). -/

namespace Sys2Proof.Machine

/-- Cells laid out from `a` on are in canonical form from any lower bound, as long as they end within the bus. -/
theorem Memory.wfFrom_cells (bytes : List Byte) :
    ∀ lo a : Nat, lo ≤ a → a + bytes.length ≤ 0x10000 → Memory.wfFrom lo (Memory.cells a bytes) = true := by
  induction bytes with
  | nil => intro lo a _ _; rfl
  | cons b bs ih =>
    intro lo a h1 h2
    simp only [List.length_cons] at h2
    simp only [Memory.cells, Memory.wfFrom, Bool.and_eq_true, decide_eq_true_eq]
    exact ⟨⟨h1, by omega⟩, ih (a + 1) (a + 1) (Nat.le_refl _) (by omega)⟩

/-- A load R77 speaks of leaves the store in canonical form. -/
theorem Memory.wf_load (bytes : List Byte) (h : bytes.length ≤ loadMax) : (Memory.load bytes).wf = true :=
  Memory.wfFrom_cells bytes _ _ (by decide) (by unfold loadMax at h; unfold loadBase; omega)

/-- A clear leaves the store in canonical form. -/
theorem Memory.wf_clear : Memory.clear.wf = true := rfl

/-- Reading cells laid out from `a` on: the byte at that distance, nothing elsewhere. -/
theorem Memory.read_cells (bytes : List Byte) :
    ∀ a x : Nat, (Memory.cells a bytes).read x = if a ≤ x then bytes[x - a]? else none := by
  induction bytes with
  | nil => intro a x; simp [Memory.cells, Memory.read, Memory.unlisted]
  | cons b bs ih =>
    intro a x
    simp only [Memory.cells, Memory.read, ih]
    by_cases hx : x = a
    · subst hx; simp
    · by_cases hle : a ≤ x
      · have : x - a = (x - (a + 1)) + 1 := by omega
        simp [hx, hle, this, show a + 1 ≤ x by omega]
      · simp [hx, hle, show ¬ a + 1 ≤ x by omega]

/-- A canonical store lists nothing below its lower bound. -/
theorem Memory.read_none_of_lt (m : Memory) :
    ∀ lo a : Nat, Memory.wfFrom lo m = true → a < lo → m.read a = none := by
  induction m with
  | nil => intro lo a _ _; rfl
  | cons c m ih =>
    intro lo a h ha
    obtain ⟨b, v⟩ := c
    simp only [Memory.wfFrom, Bool.and_eq_true, decide_eq_true_eq] at h
    simp only [Memory.read, show a ≠ b by omega, if_false]
    exact ih (b + 1) a h.2 (by omega)

end Sys2Proof.Machine
end

