-- ==== Sys2Proof/Laws/PerInstr.lean ====
section
/-! SUPPORT. One fact about every command, constructor by constructor: its word agrees with its own row of
spec/opcode_table.json, that is `encode i & mask = match` (spec/30_encoding.md R108). -/

namespace Sys2Proof.Laws.MatchesRow
open Sys2Proof Sys2Proof.Machine

/-- The `match` and `mask` columns of the row of a command, copied from spec/opcode_table.json. -/
def row : Instr → Word × Word
  | .wrP1R0 _ => (0x10400000#32, 0xFFFFFF00#32)
  | .wrP1R1 _ => (0x10400100#32, 0xFFFFFF00#32)
  | .wrP1R2 _ => (0x10400200#32, 0xFFFFFF00#32)
  | .wrP1R3 _ => (0x10400300#32, 0xFFFFFF00#32)
  | .wrP2R0 _ => (0x10400400#32, 0xFFFFFF00#32)
  | .wrP2R1 _ => (0x10400500#32, 0xFFFFFF00#32)
  | .wrP2R2 _ => (0x10400600#32, 0xFFFFFF00#32)
  | .wrP2R3 _ => (0x10400700#32, 0xFFFFFF00#32)
  | .wrTriR0 _ => (0x10400800#32, 0xFFFFFF00#32)
  | .wrTriR1 _ => (0x10400900#32, 0xFFFFFF00#32)
  | .wrTriR2 _ => (0x10400A00#32, 0xFFFFFF00#32)
  | .wrTriR3 _ => (0x10400B00#32, 0xFFFFFF00#32)
  | .wrNoiR0 _ => (0x10400C00#32, 0xFFFFFF00#32)
  | .wrNoiR1 _ => (0x10400D00#32, 0xFFFFFF00#32)
  | .wrNoiR2 _ => (0x10400E00#32, 0xFFFFFF00#32)
  | .wrNoiR3 _ => (0x10400F00#32, 0xFFFFFF00#32)
  | .wrDmcR0 _ => (0x10401000#32, 0xFFFFFF00#32)
  | .wrDmcR1 _ => (0x10401100#32, 0xFFFFFF00#32)
  | .wrDmcR2 _ => (0x10401200#32, 0xFFFFFF00#32)
  | .wrDmcR3 _ => (0x10401300#32, 0xFFFFFF00#32)
  | .wrX14 _ => (0x10401400#32, 0xFFFFFF00#32)
  | .wrX16 _ => (0x10401600#32, 0xFFFFFF00#32)
  | .wrX18 _ => (0x10401800#32, 0xFFFFFF00#32)
  | .wrX19 _ => (0x10401900#32, 0xFFFFFF00#32)
  | .wrX1A _ => (0x10401A00#32, 0xFFFFFF00#32)
  | .wrX1B _ => (0x10401B00#32, 0xFFFFFF00#32)
  | .wrX1C _ => (0x10401C00#32, 0xFFFFFF00#32)
  | .wrX1D _ => (0x10401D00#32, 0xFFFFFF00#32)
  | .wrX1E _ => (0x10401E00#32, 0xFFFFFF00#32)
  | .wrX1F _ => (0x10401F00#32, 0xFFFFFF00#32)
  | .wrStatus _ => (0x10401500#32, 0xFFFFFF00#32)
  | .wrMode _ => (0x10401700#32, 0xFFFFFF00#32)
  | .wrOut _ _ => (0x10000000#32, 0xFF000000#32)
  | .rdStatus => (0x20401500#32, 0xFFFFFFFF#32)
  | .rdUnmapped _ => (0x20000000#32, 0xFF0000FF#32)
  | .adv _ => (0x30000000#32, 0xF0000000#32)
  | .rst => (0x40000000#32, 0xFFFFFFFF#32)
  | .eof => (0x50000000#32, 0xFFFFFFFF#32)
  | .clk _ => (0x60000000#32, 0xFFFFFFFE#32)
  | .getpP1 => (0x70000000#32, 0xFFFFFFFF#32)
  | .getpP2 => (0x70000001#32, 0xFFFFFFFF#32)
  | .getpTri => (0x70000002#32, 0xFFFFFFFF#32)
  | .getpNoi => (0x70000003#32, 0xFFFFFFFF#32)
  | .getpDmc => (0x70000004#32, 0xFFFFFFFF#32)

/-- The word of a command agrees with its row. -/
def Statement (i : Instr) : Prop := encode i &&& (row i).2 = (row i).1

/-- The 32 window rows differ in the offset only. -/
theorem windowRow (off : BitVec 5) (d : Byte) :
    writeWord (windowAddr off) d &&& 0xFFFFFF00#32 = 0x10400000#32 + (off.setWidth 32 <<< 8) := by
  have h : ∀ off : BitVec 5, 0x10400000#32 + (off.setWidth 32 <<< 8) = writeWord (windowAddr off) 0 := by decide
  rw [h]
  apply BitVec.eq_of_getLsbD_eq; intro i hi
  rw [BitVec.getLsbD_and, getLsbD_writeWord, getLsbD_writeWord]
  interval_cases i <;> simp

theorem wrP1R0 (d : Byte) : Statement (.wrP1R0 d) := windowRow 0x00 d
theorem wrP1R1 (d : Byte) : Statement (.wrP1R1 d) := windowRow 0x01 d
theorem wrP1R2 (d : Byte) : Statement (.wrP1R2 d) := windowRow 0x02 d
theorem wrP1R3 (d : Byte) : Statement (.wrP1R3 d) := windowRow 0x03 d
theorem wrP2R0 (d : Byte) : Statement (.wrP2R0 d) := windowRow 0x04 d
theorem wrP2R1 (d : Byte) : Statement (.wrP2R1 d) := windowRow 0x05 d
theorem wrP2R2 (d : Byte) : Statement (.wrP2R2 d) := windowRow 0x06 d
theorem wrP2R3 (d : Byte) : Statement (.wrP2R3 d) := windowRow 0x07 d
theorem wrTriR0 (d : Byte) : Statement (.wrTriR0 d) := windowRow 0x08 d
theorem wrTriR1 (d : Byte) : Statement (.wrTriR1 d) := windowRow 0x09 d
theorem wrTriR2 (d : Byte) : Statement (.wrTriR2 d) := windowRow 0x0A d
theorem wrTriR3 (d : Byte) : Statement (.wrTriR3 d) := windowRow 0x0B d
theorem wrNoiR0 (d : Byte) : Statement (.wrNoiR0 d) := windowRow 0x0C d
theorem wrNoiR1 (d : Byte) : Statement (.wrNoiR1 d) := windowRow 0x0D d
theorem wrNoiR2 (d : Byte) : Statement (.wrNoiR2 d) := windowRow 0x0E d
theorem wrNoiR3 (d : Byte) : Statement (.wrNoiR3 d) := windowRow 0x0F d
theorem wrDmcR0 (d : Byte) : Statement (.wrDmcR0 d) := windowRow 0x10 d
theorem wrDmcR1 (d : Byte) : Statement (.wrDmcR1 d) := windowRow 0x11 d
theorem wrDmcR2 (d : Byte) : Statement (.wrDmcR2 d) := windowRow 0x12 d
theorem wrDmcR3 (d : Byte) : Statement (.wrDmcR3 d) := windowRow 0x13 d
theorem wrX14 (d : Byte) : Statement (.wrX14 d) := windowRow 0x14 d
theorem wrX16 (d : Byte) : Statement (.wrX16 d) := windowRow 0x16 d
theorem wrX18 (d : Byte) : Statement (.wrX18 d) := windowRow 0x18 d
theorem wrX19 (d : Byte) : Statement (.wrX19 d) := windowRow 0x19 d
theorem wrX1A (d : Byte) : Statement (.wrX1A d) := windowRow 0x1A d
theorem wrX1B (d : Byte) : Statement (.wrX1B d) := windowRow 0x1B d
theorem wrX1C (d : Byte) : Statement (.wrX1C d) := windowRow 0x1C d
theorem wrX1D (d : Byte) : Statement (.wrX1D d) := windowRow 0x1D d
theorem wrX1E (d : Byte) : Statement (.wrX1E d) := windowRow 0x1E d
theorem wrX1F (d : Byte) : Statement (.wrX1F d) := windowRow 0x1F d
theorem wrStatus (d : Byte) : Statement (.wrStatus d) := windowRow 0x15 d
theorem wrMode (d : Byte) : Statement (.wrMode d) := windowRow 0x17 d
theorem wrOut (a : Addr) (d : Byte) : Statement (.wrOut a d) := by
  show writeWord a d &&& 0xFF000000#32 = 0x10000000#32
  apply BitVec.eq_of_getLsbD_eq; intro i hi
  rw [BitVec.getLsbD_and, getLsbD_writeWord]
  interval_cases i <;> simp
theorem rdStatus : Statement (.rdStatus) := by unfold Statement; decide
theorem rdUnmapped (a : Addr) : Statement (.rdUnmapped a) := by
  show readWord a &&& 0xFF0000FF#32 = 0x20000000#32
  apply BitVec.eq_of_getLsbD_eq; intro i hi
  rw [BitVec.getLsbD_and, getLsbD_readWord]
  interval_cases i <;> simp
theorem adv (n : Cycles) : Statement (.adv n) := by
  show advanceWord n &&& 0xF0000000#32 = 0x30000000#32
  apply BitVec.eq_of_getLsbD_eq; intro i hi
  rw [BitVec.getLsbD_and, getLsbD_advanceWord]
  interval_cases i <;> simp
theorem rst : Statement (.rst) := by unfold Statement; decide
theorem eof : Statement (.eof) := by unfold Statement; decide
theorem clk (d : Domain) : Statement (.clk d) := by cases d <;> (unfold Statement; decide)
theorem getpP1 : Statement (.getpP1) := by unfold Statement; decide
theorem getpP2 : Statement (.getpP2) := by unfold Statement; decide
theorem getpTri : Statement (.getpTri) := by unfold Statement; decide
theorem getpNoi : Statement (.getpNoi) := by unfold Statement; decide
theorem getpDmc : Statement (.getpDmc) := by unfold Statement; decide

end Sys2Proof.Laws.MatchesRow
end

