-- ==== Sys2Proof/Tests/Slice0.lean ====
section
/-! SUPPORT. Small tests of the model, expected values from the examples of spec/ (the rule or section is named), and
for every statement with hypotheses one witness that meets them (theorems named `witness_…`). -/

namespace Sys2Proof.Tests
open Machine

/-! ## Helpers -/

/-- The state after RESET in the NTSC and in the PAL domain (R33). -/
def ntsc : State := State.afterReset .ntsc

/-- See `ntsc`. -/
def pal : State := State.afterReset .pal

/-- The next state of a command; the reset state when there is none. -/
def after (i : Instr) (s : State) : State :=
  match exec i s with
  | .next t    => t
  | .fault _   => ntsc
  | .refused _ => ntsc

/-- A queue of one word. -/
def withWord (w : Word) (s : State) : State := { s with pending := [.word w] }

/-! ## Configuration (R5, U8) -/

theorem test_default_config_is_valid : chip.valid = true := by decide

theorem test_zero_period_config_is_refused :
    ({ chip with pal := { chip.pal with seqPeriod := 0 } } : Config).valid = false := by decide

/-- D24: a frame-time width other than the one the types carry. -/
theorem test_other_time_width_is_refused : ({ chip with timeW := 24 } : Config).valid = false := by decide

/-! ## Well-formedness: what the check refuses, and its boundaries (R142, R147) -/

theorem test_wf_refuses_out_of_row_operands :
    Instr.wf (.wrOut 0x4000 0xFF) = false ∧ Instr.wf (.wrOut 0x401F 0x00) = false ∧
    Instr.wf (.rdUnmapped 0x4015) = false := by decide

theorem test_wf_accepts_boundary_operands :
    Instr.wf (.wrOut 0x3FFF 0xFF) = true ∧ Instr.wf (.wrOut 0x4020 0xFF) = true ∧
    Instr.wf (.rdUnmapped 0x4014) = true ∧ Instr.wf (.rdUnmapped 0x0000) = true := by decide

/-! ## Decoding: words written out from R100 to R106 and R125 -/

theorem test_decode_pulse_writes :
    decode 0x104000BF = .ok (.wrP1R0 0xBF) ∧ decode 0x1040018A = .ok (.wrP1R1 0x8A) ∧
    decode 0x104002FD = .ok (.wrP1R2 0xFD) ∧ decode 0x10400308 = .ok (.wrP1R3 0x08) ∧
    decode 0x10400430 = .ok (.wrP2R0 0x30) ∧ decode 0x10400508 = .ok (.wrP2R1 0x08) ∧
    decode 0x10400655 = .ok (.wrP2R2 0x55) ∧ decode 0x104007FF = .ok (.wrP2R3 0xFF) :=
  ⟨rfl, rfl, rfl, rfl, rfl, rfl, rfl, rfl⟩

theorem test_decode_triangle_and_noise_writes :
    decode 0x10400881 = .ok (.wrTriR0 0x81) ∧ decode 0x104009FF = .ok (.wrTriR1 0xFF) ∧
    decode 0x10400A02 = .ok (.wrTriR2 0x02) ∧ decode 0x10400B08 = .ok (.wrTriR3 0x08) ∧
    decode 0x10400C3A = .ok (.wrNoiR0 0x3A) ∧ decode 0x10400DFF = .ok (.wrNoiR1 0xFF) ∧
    decode 0x10400E82 = .ok (.wrNoiR2 0x82) ∧ decode 0x10400F18 = .ok (.wrNoiR3 0x18) :=
  ⟨rfl, rfl, rfl, rfl, rfl, rfl, rfl, rfl⟩

theorem test_decode_sample_unit_and_control_writes :
    decode 0x1040108F = .ok (.wrDmcR0 0x8F) ∧ decode 0x10401140 = .ok (.wrDmcR1 0x40) ∧
    decode 0x10401201 = .ok (.wrDmcR2 0x01) ∧ decode 0x10401301 = .ok (.wrDmcR3 0x01) ∧
    decode 0x1040151F = .ok (.wrStatus 0x1F) ∧ decode 0x10401780 = .ok (.wrMode 0x80) :=
  ⟨rfl, rfl, rfl, rfl, rfl, rfl⟩

theorem test_decode_unassigned_writes :
    decode 0x10401402 = .ok (.wrX14 0x02) ∧ decode 0x10401601 = .ok (.wrX16 0x01) ∧
    decode 0x10401801 = .ok (.wrX18 0x01) ∧ decode 0x10401901 = .ok (.wrX19 0x01) ∧
    decode 0x10401A01 = .ok (.wrX1A 0x01) ∧ decode 0x10401B01 = .ok (.wrX1B 0x01) ∧
    decode 0x10401C01 = .ok (.wrX1C 0x01) ∧ decode 0x10401D01 = .ok (.wrX1D 0x01) ∧
    decode 0x10401E01 = .ok (.wrX1E 0x01) ∧ decode 0x10401F01 = .ok (.wrX1F 0x01) ∧
    decode 0x103FFFFF = .ok (.wrOut 0x3FFF 0xFF) ∧ decode 0x104020FF = .ok (.wrOut 0x4020 0xFF) :=
  ⟨rfl, rfl, rfl, rfl, rfl, rfl, rfl, rfl, rfl, rfl, rfl, rfl⟩

theorem test_decode_other_commands :
    decode 0x20401500 = .ok .rdStatus ∧ decode 0x20401700 = .ok (.rdUnmapped 0x4017) ∧
    decode 0x30001D21 = .ok (.adv 7457) ∧ decode 0x40000000 = .ok .rst ∧ decode 0x50000000 = .ok .eof ∧
    decode 0x60000000 = .ok (.clk .ntsc) ∧ decode 0x60000001 = .ok (.clk .pal) ∧
    decode 0x70000000 = .ok .getpP1 ∧ decode 0x70000001 = .ok .getpP2 ∧ decode 0x70000002 = .ok .getpTri ∧
    decode 0x70000003 = .ok .getpNoi ∧ decode 0x70000004 = .ok .getpDmc :=
  ⟨rfl, rfl, rfl, rfl, rfl, rfl, rfl, rfl, rfl, rfl, rfl, rfl⟩

theorem test_decode_rejects_reserved_words :
    decode 0x00000000 = .error .reservedOperation ∧ decode 0x80000000 = .error .reservedOperation ∧
    decode 0x11400000 = .error .nonzeroField ∧ decode 0x20401501 = .error .nonzeroField ∧
    decode 0x40000001 = .error .nonzeroField ∧ decode 0x50000100 = .error .nonzeroField ∧
    decode 0x60000002 = .error .nonzeroField ∧ decode 0x70000008 = .error .nonzeroField ∧
    decode 0x70000005 = .error .reservedChannel :=
  ⟨rfl, rfl, rfl, rfl, rfl, rfl, rfl, rfl, rfl⟩

theorem test_decodeTableWord : decodeTableWord 32 0x104000BF = some (.wrP1R0 0xBF) ∧
    decodeTableWord 32 0x70000007 = none := ⟨rfl, rfl⟩

/-- R125: the line of a command. -/
theorem test_lineOf : lineOf (.wrOut 0x3FFF 0xFF) = "WR $3FFF,#$FF" ∧ lineOf (.adv 7457) = "ADV 7457" := by
  decide +kernel

/-- The word put where the next step takes it runs as the first command after reset. -/
theorem test_withFetchWord_runs : step (State.reset.withFetchWord 32 0x104000BF) = exec (.wrP1R0 0xBF) State.reset := rfl

/-! ## Register writes: the examples of R191 to R194, R205 to R208, R231 to R234, R251 to R254, R271 to R274 -/

theorem test_wrP1R0 : (after (.wrP1R0 0xBF) ntsc).p1 =
    { Pulse.zero with duty := 2, env := { Envelope.zero with loop := true, const := true, vol := 15 } } := by decide

theorem test_wrP1R1 : (after (.wrP1R1 0x8A) ntsc).p1 =
    { Pulse.zero with swEn := true, swPeriod := 0, swNeg := true, swShift := 2, swWritten := true } := by decide

theorem test_wrP1R2 : (after (.wrP1R2 0x10) { ntsc with p1 := { Pulse.zero with period := 0x2FD } }).p1.period = 0x210 := by
  decide

theorem test_wrP1R3 : (after (.wrP1R3 0x08) { ntsc with p1 := { Pulse.zero with period := 0x2FD, dutyStep := 9 } }).p1 =
    { Pulse.zero with period := 0x0FD, length := 254, env := { Envelope.zero with level := 15 } } := by decide

theorem test_wrP1R3_enables : (after (.wrP1R3 0x08) { ntsc with p1 := { Pulse.zero with ctrl := true } }).p1.enabled = true := by
  decide

theorem test_wrP2R0 : (after (.wrP2R0 0x30) ntsc).p2 =
    { Pulse.zero with env := { Envelope.zero with loop := true, const := true } } := by decide

theorem test_wrP2R1 : (after (.wrP2R1 0x08) ntsc).p2 = { Pulse.zero with swNeg := true, swWritten := true } := by decide

theorem test_wrP2R2 : (after (.wrP2R2 0x55) ntsc).p2 = { Pulse.zero with period := 0x055 } := by decide

theorem test_wrP2R3 : (after (.wrP2R3 0xFF) ntsc).p2 =
    { Pulse.zero with period := 0x700, length := 30, env := { Envelope.zero with level := 15 } } := by decide

theorem test_wrTriR0 : (after (.wrTriR0 0x81) ntsc).tri = { Triangle.zero with triLoop := true, linReload := 1 } := by decide

theorem test_wrTriR2 : (after (.wrTriR2 0x02) ntsc).tri = { Triangle.zero with period := 2 } := by decide

theorem test_wrTriR3 : (after (.wrTriR3 0x08) ntsc).tri = { Triangle.zero with length := 254, halt := true } := by decide

theorem test_wrNoiR0 : (after (.wrNoiR0 0x3A) ntsc).noi.env =
    { Envelope.zero with loop := true, const := true, vol := 10 } := by decide

theorem test_wrNoiR2 : (after (.wrNoiR2 0x82) ntsc).noi.mode = true ∧ (after (.wrNoiR2 0x82) ntsc).noi.period = 16 ∧
    (after (.wrNoiR2 0x82) pal).noi.period = 14 := by decide

theorem test_wrNoiR3 : (after (.wrNoiR3 0x18) ntsc).noi.length = 2 ∧ (after (.wrNoiR3 0x18) ntsc).noi.env.level = 15 := by
  decide

theorem test_wrDmcR0 : (after (.wrDmcR0 0x8F) { ntsc with dmc := { ntsc.dmc with irq := true } }).dmc =
    { ntsc.dmc with irqEn := true, period := 54, irq := true } := by decide

theorem test_wrDmcR0_clears_irq :
    (after (.wrDmcR0 0x0F) { ntsc with dmc := { ntsc.dmc with irq := true } }).dmc.irq = false := by decide

theorem test_wrDmcR1 : (after (.wrDmcR1 0xC0) ntsc).events = [{ ch := .dmc, time := 0, delta := 64 }] ∧
    (after (.wrDmcR1 0xC0) ntsc).dmc.delta = 64 := by decide

theorem test_wrDmcR2 : (after (.wrDmcR2 0x01) ntsc).dmc = { ntsc.dmc with addrReg := 1 } := by decide

theorem test_wrDmcR3 : (after (.wrDmcR3 0x01) ntsc).dmc = { ntsc.dmc with lenReg := 1 } := by decide

/-- R143. -/
theorem test_wrStatus : (after (.wrStatus 0x1F) ntsc).dmc = { ntsc.dmc with curAddr := 0x4000, bytes := 1 } ∧
    (after (.wrStatus 0x1F) ntsc).noi.ctrl = true ∧ (after (.wrStatus 0x1F) ntsc).noi.enabled = false := by decide

/-- R278: `addr_reg` 0x01, `len_reg` 0x01. -/
theorem test_wrStatus_start : (after (.wrStatus 0x10) { ntsc with dmc := { ntsc.dmc with addrReg := 1, lenReg := 1 } }).dmc =
    { ntsc.dmc with addrReg := 1, lenReg := 1, curAddr := 0x4040, bytes := 17 } := by decide

/-- R171: noise with length 2 and level 15. -/
theorem test_wrMode_fires_pass :
    let s := { ntsc with seqIndex := 2, noi := { ntsc.noi with length := 2, env := { Envelope.zero with level := 15 } } }
    (after (.wrMode 0x80) s).noi.env.level = 14 ∧ (after (.wrMode 0x80) s).noi.length = 1 ∧
      (after (.wrMode 0x80) s).seqIndex = 0 ∧ (after (.wrMode 0x40) s).noi = s.noi := by decide

/-! ## Reads, RESET, ENDFRAME, SETCLK, GETPERIOD: the examples of R141, R146, R147, R152 to R154, R281 -/

theorem test_rdStatus : (after .rdStatus { ntsc with dmc := { ntsc.dmc with bytes := 1 } }).responses = [.read 0x10 true] ∧
    (after .rdStatus { ntsc with dmc := { ntsc.dmc with irq := true } }).responses = [.read 0x80 true] := by decide

theorem test_rdUnmapped : (after (.rdUnmapped 0x4017) ntsc).responses = [.read 0x00 false] := by decide

theorem test_rst : after .rst { pal with noi := { pal.noi with lfsr := 5 }, frameTime := 77, responses := [.period 1] } =
    { pal with responses := [.period 1] } := by decide

theorem test_eof : (after .eof { ntsc with frameTime := 1000 }).frameTime = 0 := by decide

theorem test_clk : (after (.clk .pal) ntsc).dmc.period = 428 ∧ (after .rst (after (.clk .pal) ntsc)).dmc.period = 398 := by
  decide

theorem test_getpP1 : (after .getpP1 { ntsc with p1 := { Pulse.zero with period := 0x2FD } }).responses = [.period 765] := by
  decide

theorem test_getp_noise_and_dmc : (after .getpNoi ntsc).responses = [.period 4] ∧
    (after .getpDmc ntsc).responses = [.period 428] := by decide

/-! ## ADVANCE -/

/-- R200: `RST`, `WR $4002,#$09`, `ADV 25`: fires at 0, 10, 20; the timer ends at 5. -/
theorem test_adv_pulse_timer : (after (.adv 25) { ntsc with p1 := { Pulse.zero with period := 9 } }).p1 =
    { Pulse.zero with period := 9, timer := 5, dutyStep := 3 } := by decide +kernel

/-- R258: `RST`, `ADV 10`: fires at 0, 4, 8; the timer ends at 2; the register after three shifts (R262). -/
theorem test_adv_noise_timer : (after (.adv 10) ntsc).noi.timer = 2 ∧ (after (.adv 10) ntsc).noi.lfsr = 0x1000 := by
  decide +kernel

/-- R239: the triangle fires at its due time, then parks when ultrasonic. -/
theorem test_adv_triangle :
    let g := { Triangle.zero with linCounter := 1, length := 254, enabled := true, ctrl := true }
    (after (.adv 1) { ntsc with tri := { g with period := 2 }, frameTime := 7457 }).events =
      [{ ch := .tri, time := 7457, delta := 15 }] ∧
    (after (.adv 1) { ntsc with tri := { g with period := 1 }, frameTime := 7457 }).events =
      [{ ch := .tri, time := 7458, delta := 8 }] := by decide +kernel

/-- R285: the fire at 428 of the worked run: fetch of 0xC000 (0x0F), `irq` set, `delta` 66. -/
theorem test_adv_sample_fire :
    let g := { ntsc.dmc with irqEn := true, period := 54, timer := 1, curAddr := 0x4000, bytes := 1, delta := 64 }
    let t := after (.adv 1) { ntsc with dmc := g, levels := { Levels.zero with dmc := 64 }, frameTime := 427,
                                        store := Memory.load [0x0F] }
    t.dmc = { g with curAddr := 0x4001, bytes := 0, buffer := 0x0F, shift := 0x07, bitDiv := 7, delta := 66, irq := true,
                     timer := 54 } ∧
    t.fetches = [{ time := 428, addr := 0xC000 }] ∧ t.events = [{ ch := .dmc, time := 428, delta := 2 }] := by
  decide +kernel

/-- R148: the last cycle of `ADV 7457` takes the step: index 0 to 1, fast and slow tick, divider full. -/
theorem test_adv_sequencer_step :
    let t := after (.adv 1) { ntsc with seqDiv := 1, p1 := { Pulse.zero with length := 3, env := { Envelope.zero with level := 9 } } }
    t.seqIndex = 1 ∧ t.seqDiv = 7457 ∧ t.p1.length = 2 ∧ t.p1.env.level = 8 := by decide +kernel

/-- R198: P1, period 0x100, shift 1; and the constant `diff` of a negated sweep. -/
theorem test_sweep :
    let g := { Pulse.zero with period := 0x100, swEn := true, swShift := 1 }
    (g.sweep PulseId.p1.diff).period = 0x180 ∧
    ({ Pulse.zero with period := 0x100, swNeg := true } : Pulse).sweep PulseId.p1.diff =
      { Pulse.zero with period := 0x100, swNeg := true, swResult := -1 } ∧
    (({ g with swNeg := true } : Pulse).sweep PulseId.p2.diff).period = 0x080 := by decide

/-- R262 (b): mode 1 takes the tap from bit 6. -/
theorem test_lfsr : lfsrNext true 0x0040 = 0x4020 ∧ lfsrNext false 0x4001 = 0x6000 := by decide

/-- R150: three pulse slices give what three cycles give. -/
theorem test_slicing : advanceSliced 20 { ntsc with p1 := { Pulse.zero with period := 9 } } =
    advance 20 { ntsc with p1 := { Pulse.zero with period := 9 } } := by decide +kernel

/-- R304: silence, and a single pulse at level 1. -/
theorem test_dac : dac1 0 = 0 ∧ dac2 0 0 0 = 0 ∧ dac1 1 = 9588 / 822800 := by
  refine ⟨?_, ?_, ?_⟩ <;> norm_num [dac1, dac2]

/-- R304, D23: the transfers are parameters; here both plain sums. -/
theorem test_dac_is_a_parameter :
    State.outWith { chip with dac1 := fun n => n, dac2 := fun t n d => t + n + d }
      { ntsc with levels := { p1 := 15, p2 := 14, tri := 13, noi := 12, dmc := 100 } } = 154 := by
  decide +kernel

/-! ## The sample store (R77) -/

theorem test_load_and_clear :
    let t := { ntsc with pending := [], store := Memory.load [0x0F, 0xF0] }
    step { ntsc with pending := [.load [0x0F, 0xF0]] } = .next t ∧
    t.store.read 0xC001 = some 0xF0 ∧ t.store.read 0xC002 = none ∧ t.store.read 0x8000 = none ∧
    step { t with pending := [.clear] } = .next ntsc := ⟨rfl, rfl, rfl, rfl, rfl⟩

/-! ## Witnesses: states and operands that meet the hypotheses of each statement together -/

/-- `DecodeInvertsEncode`: a well-formed term of each restricted row. -/
theorem witness_DecodeInvertsEncode :
    Instr.wf (.wrOut 0x4020 0x01) = true ∧ Instr.wf (.rdUnmapped 0x4016) = true ∧ Instr.wf (.adv 0xFFFFFFF) = true := by
  decide

/-- `EncodeInvertsDecode`. -/
theorem witness_EncodeInvertsDecode : decode 0x3FFFFFFF = .ok (.adv 0xFFFFFFF) := rfl

/-- `ReservedWordsRefused`: one word of each kind, at the head of a queue, and a word that is not reserved. -/
theorem witness_ReservedWordsRefused :
    ReservedWord 0x0FFFFFFF ∧ ReservedWord 0x80000000 ∧ ReservedWord 0x11000000 ∧ ReservedWord 0x2F401500 ∧
    ReservedWord 0x20401580 ∧ ReservedWord 0x48000000 ∧ ReservedWord 0x50000001 ∧ ReservedWord 0x68000000 ∧
    ReservedWord 0x70000008 ∧ ReservedWord 0x70000005 ∧ ¬ ReservedWord 0x70000004 ∧
    (withWord 0x70000005 ntsc).pending = [.word 0x70000005] := by
  refine ⟨?_, ?_, ?_, ?_, ?_, ?_, ?_, ?_, ?_, ?_, ?_, rfl⟩ <;> unfold ReservedWord <;> decide

/-- `StepRunsDecodedCommand`. -/
theorem witness_StepRunsDecodedCommand :
    (withWord 0x40000000 ntsc).pending = .word 0x40000000 :: [] ∧ decode 0x40000000 = .ok .rst := ⟨rfl, rfl⟩

/-- `StoreActionsLoadAndClear`: each clause, the load at both ends of its range. -/
theorem witness_StoreActionsLoadAndClear :
    (∃ bytes : List Byte, bytes.length = 0 ∧ bytes.length ≤ 0x4000 ∧
      ({ ntsc with pending := [.load bytes] } : State).pending = [.load bytes]) ∧
    (∃ bytes : List Byte, bytes.length = 0x4000 ∧
      ({ ntsc with pending := [.load bytes] } : State).pending = [.load bytes]) ∧
    ({ ntsc with pending := [.clear] } : State).pending = [.clear] ∧ ntsc.pending = [] :=
  ⟨⟨[], rfl, Nat.zero_le _, rfl⟩, ⟨List.replicate 0x4000 0, List.length_replicate, rfl⟩, rfl, rfl⟩

/-- `AcceptedQueueRunsToItsEnd`: a queue of all three kinds of action. -/
theorem witness_AcceptedQueueRunsToItsEnd :
    ∀ a ∈ ({ ntsc with pending := [.load [1, 2], .word 0x30000001, .clear] } : State).pending, Accepted a := by
  intro a h
  simp only [List.mem_cons, List.not_mem_nil, or_false] at h
  rcases h with rfl | rfl | rfl
  · show 2 ≤ 0x4000; omega
  · show ¬ ReservedWord _; unfold ReservedWord; decide
  · trivial

/-- `UnassignedAndOutsideWritesDropped`: the ends of each range, with the word of R125 at the head of the queue. -/
theorem witness_UnassignedAndOutsideWritesDropped :
    (∀ a ∈ [0x0000#16, 0x3FFF#16, 0x4014#16, 0x4016#16, 0x4018#16, 0x401F#16, 0x4020#16, 0xFFFF#16],
      a.toNat < 0x4000 ∨ 0x401F < a.toNat ∨ a.toNat = 0x4014 ∨ a.toNat = 0x4016 ∨ 0x4018 ≤ a.toNat) ∧
    (withWord 0x104014FF ntsc).pending =
      .word (BitVec.ofNat 32 (0x10000000 + (0x4014#16).toNat * 2 ^ 8 + (0xFF#8).toNat)) :: [] := by
  exact ⟨by simp, congrArg (fun w => [HostAction.word w]) (by decide :
    0x104014FF#32 = BitVec.ofNat 32 (0x10000000 + (0x4014#16).toNat * 2 ^ 8 + (0xFF#8).toNat))⟩

/-- `OtherReadsAnswerUnmapped`: the neighbours of STATUS, MODE, and an address outside the window. -/
theorem witness_OtherReadsAnswerUnmapped :
    (∀ a ∈ [0x4014#16, 0x4016#16, 0x4017#16, 0x0000#16, 0xFFFF#16], a.toNat ≠ 0x4015) ∧
    (withWord 0x20401700 ntsc).pending = .word (BitVec.ofNat 32 (0x20000000 + (0x4017#16).toNat * 2 ^ 8)) :: [] := by
  exact ⟨by simp, congrArg (fun w => [HostAction.word w]) (by decide :
    0x20401700#32 = BitVec.ofNat 32 (0x20000000 + (0x4017#16).toNat * 2 ^ 8))⟩

/-- `PulseControlWrite`, `PulseSweepWrite`, `PulseTriggerWrite`: both disjuncts name a generator. -/
theorem witness_PulseWrites : ∃ (old new : Pulse), old = ntsc.p1 ∧ new = (after (.wrP1R3 0xFF) ntsc).p1 ∧
    ∃ (old' new' : Pulse), old' = ntsc.p2 ∧ new' = (after (.wrP2R3 0x00) ntsc).p2 := ⟨_, _, rfl, rfl, _, _, rfl, rfl⟩

/-- `StatusWriteFansOut`: the three clauses on bit 4 and the bytes left. -/
theorem witness_StatusWriteFansOut :
    (flagBit 0x10 4 = true ∧ ntsc.dmc.bytes.toNat = 0) ∧
    (flagBit 0x10 4 = true ∧ ({ ntsc.dmc with bytes := 1 } : Dmc).bytes.toNat ≠ 0) ∧ flagBit 0xEF 4 = false := by decide

/-- `EnvelopeClock`: divider at 0, 1 and 15. -/
theorem witness_EnvelopeClock :
    ntsc.p1.env = Envelope.zero ∧ ntsc.noi.env = Envelope.zero ∧ Envelope.zero.div.toNat = 0 ∧
    ({ Envelope.zero with div := 1 } : Envelope).div.toNat ≠ 0 ∧ ({ Envelope.zero with div := 15 } : Envelope).div.toNat ≠ 0 := by
  decide

/-- `SweepClock`: an update at the smallest and at the largest period, and the tests that bar one. -/
theorem witness_SweepClock :
    let g := { Pulse.zero with swEn := true, swShift := 1, period := 8 }
    (g.swDiv.toNat = 0 ∧ g.swEn = true ∧ 7 < g.period.toNat ∧
      (g.period.toNat : Int) + (g.period.toNat / 2 ^ g.swShift.toNat : Nat) < 0x800 ∧ 0 < g.swShift.toNat) ∧
    ((1365 : Int) + (1365 / 2 ^ 1 : Nat) < 0x800 ∧ ¬ (1366 : Int) + (1366 / 2 ^ 1 : Nat) < 0x800) ∧
    ¬ 7 < ({ g with period := 7 } : Pulse).period.toNat := by decide

/-- `ModeWriteFiresOnePass`: both forms at the ends of their range. -/
theorem witness_ModeWriteFiresOnePass :
    (0x00#8).toNat / 2 ^ 7 = 0 ∧ (0x7F#8).toNat / 2 ^ 7 = 0 ∧ (0x80#8).toNat / 2 ^ 7 = 1 ∧ (0xFF#8).toNat / 2 ^ 7 = 1 := by
  decide

/-- `SequencerFiringPattern`: every index of both modes. -/
theorem witness_SequencerFiringPattern :
    (∀ n ∈ [0, 1, 2, 3], ({ ntsc with seqIndex := BitVec.ofNat 3 n } : State).seqMode = .fourStep ∧
      ({ ntsc with seqIndex := BitVec.ofNat 3 n } : State).seqIndex.toNat = n) ∧
    (∀ n ∈ [0, 1, 2, 3, 4], ({ ntsc with seqMode := .fiveStep, seqIndex := BitVec.ofNat 3 n } : State).seqMode = .fiveStep ∧
      ({ ntsc with seqMode := .fiveStep, seqIndex := BitVec.ofNat 3 n } : State).seqIndex.toNat = n) := by decide

/-- `SequencerIndexStaysBounded`: the largest index of each mode, and a command that completes. -/
theorem witness_SequencerIndexStaysBounded :
    State.IndexValid { ntsc with seqIndex := 3 } ∧ State.IndexValid { ntsc with seqMode := .fiveStep, seqIndex := 4 } ∧
    exec .eof ntsc = .next ntsc := ⟨(by decide : (3 : Nat) ≤ 3), (by decide : (4 : Nat) ≤ 4), rfl⟩

/-- `NoTickBeforeDividerExpires`: at the last cycle before the step. -/
theorem witness_NoTickBeforeDividerExpires : (7456#28).toNat < ntsc.seqDiv.toNat ∧ (0#28).toNat < ntsc.seqDiv.toNat := by
  decide

/-- `SequencerStepsOncePerPeriod`: both domains, no period and the largest number of them. -/
theorem witness_SequencerStepsOncePerPeriod :
    ntsc.IndexValid ∧ ntsc.seqDiv.toNat = (if ntsc.domain = .ntsc then 7457 else 6927) ∧ 0 * ntsc.seqDiv.toNat < 2 ^ 28 ∧
    35997 * ntsc.seqDiv.toNat < 2 ^ 28 ∧
    pal.IndexValid ∧ pal.seqDiv.toNat = (if pal.domain = .ntsc then 7457 else 6927) ∧ 38752 * pal.seqDiv.toNat < 2 ^ 28 := by
  refine ⟨(by decide : (0 : Nat) ≤ 3), by decide, by decide, by decide, (by decide : (0 : Nat) ≤ 3), by decide, by decide⟩

/-- `SequencerStepEndsItsCycle`. -/
theorem witness_SequencerStepEndsItsCycle : ({ ntsc with seqDiv := 1 } : State).seqDiv.toNat = 1 := by decide

/-- `PulseMasterCycle`: each clause where its ranges meet. -/
theorem witness_PulseMasterCycle :
    let g (period : BitVec 11) (timer : BitVec 12) : Pulse := { Pulse.zero with period := period, timer := timer }
    ((g 0 5).period.toNat = 0) ∧
    (0 < (g 1 0).period.toNat ∧ (g 1 0).timer.toNat = 0) ∧ (0 < (g 2047 1).period.toNat ∧ (g 2047 1).timer.toNat = 1) ∧
    (0 < (g 1 2).period.toNat ∧ 2 ≤ (g 1 2).timer.toNat) ∧ (0 < (g 1 2048).period.toNat ∧ 2 ≤ (g 1 2048).timer.toNat) ∧
    ntsc.seqDiv.toNat ≠ 1 := by decide

/-- `TriangleMasterCycle`: inactive, ultrasonic at periods 0 and 1, and the timer at 0, 1 and 2 with period 2. -/
theorem witness_TriangleMasterCycle :
    let g (period : BitVec 11) (timer : BitVec 12) : Triangle :=
      { Triangle.zero with linCounter := 1, length := 1, enabled := true, period := period, timer := timer }
    let active (g : Triangle) : Prop := 0 < g.linCounter.toNat ∧ 0 < g.length.toNat ∧ g.enabled = true
    ¬ active ntsc.tri ∧ (active (g 0 0) ∧ (g 0 0).period.toNat ≤ 1) ∧ (active (g 1 0) ∧ (g 1 0).period.toNat ≤ 1) ∧
    (active (g 2 0) ∧ 2 ≤ (g 2 0).period.toNat ∧ (g 2 0).timer.toNat = 0) ∧
    (active (g 2 1) ∧ 2 ≤ (g 2 1).period.toNat ∧ (g 2 1).timer.toNat = 1) ∧
    (active (g 2 2) ∧ 2 ≤ (g 2 2).period.toNat ∧ 2 ≤ (g 2 2).timer.toNat) ∧ ntsc.seqDiv.toNat ≠ 1 := by
  simp only []
  refine ⟨?_, ?_, ?_, ?_, ?_, ?_, ?_⟩ <;> decide

theorem pulse_zero_inRange : Pulse.zero.InRange := ⟨by decide, by decide, by decide, by decide, by decide⟩

theorem triangle_zero_inRange : Triangle.zero.InRange := ⟨by decide, by decide, by decide⟩

theorem pal_divider : pal.DividerValid := ⟨by decide, by decide⟩

/-- The reset state of the PAL domain with other noise and sample timers meets the invariant. -/
theorem pal_inv (tn : BitVec 12) (td : BitVec 9) (hn : tn.toNat ≤ maxNoisePeriod) (hd : td.toNat ≤ maxDmcPeriod) :
    State.Inv { pal with noi := { pal.noi with timer := tn }, dmc := { pal.dmc with timer := td } } where
  p1 := pulse_zero_inRange
  p2 := pulse_zero_inRange
  tri := triangle_zero_inRange
  noi := ⟨hn, (by decide : (0 : Nat) ≤ 254), (by decide : (1 : BitVec 15) ≠ 0), (by decide : false = true → false = true),
    .pal, 0, rfl⟩
  dmc := ⟨hd, (by decide : (0 : Nat) ≤ 8), (by decide : (0 : Nat) ≤ 4081), .pal, 0, rfl⟩
  index := (by decide : (0 : Nat) ≤ 3)
  divider := pal_divider
  store := rfl

/-- `NoiseMasterCycle` and `SampleUnitMasterCycle`: both timers at 0, 1, 2 and at their largest values. -/
theorem witness_NoiseAndSampleUnitMasterCycle :
    (∀ n ∈ [0, 1, 2, 428], State.Inv { pal with
      noi := { pal.noi with timer := BitVec.ofNat 12 n }, dmc := { pal.dmc with timer := BitVec.ofNat 9 n } }) ∧
    State.Inv { pal with noi := { pal.noi with timer := 4068 }, dmc := { pal.dmc with timer := 428 } } ∧
    pal.seqDiv.toNat ≠ 1 := by
  refine ⟨?_, pal_inv _ _ (by decide) (by decide), by decide⟩
  intro n h
  simp only [List.mem_cons, List.not_mem_nil, or_false] at h
  rcases h with rfl | rfl | rfl | rfl <;> exact pal_inv _ _ (by decide) (by decide)

/-- `SampleUnitMasterCycle`: a loaded byte under the cursor, so that the fetched byte is fixed. -/
theorem witness_loaded_byte : (Memory.load [0x0F]).read (0x8000 + (0x4000#15).toNat) = some 0x0F := by decide

/-- `AdvanceSplitsFreely`: the largest sum that fits. -/
theorem witness_AdvanceSplitsFreely : (0x8000000#28).toNat + (0x7FFFFFF#28).toNat < 2 ^ 28 := by decide

/-- `SlicingNotObservable`. -/
theorem witness_SlicingNotObservable : ntsc.seqDiv.toNat ≠ 0 ∧ (3#28).toNat + (4#28).toNat = (7#28).toNat := by decide

/-- `WriteIsolatedToTarget`: one write of each generator. -/
theorem witness_WriteIsolatedToTarget :
    (Instr.wrP1R0 1).target = some .p1 ∧ (Instr.wrP2R3 1).target = some .p2 ∧ (Instr.wrTriR2 1).target = some .tri ∧
    (Instr.wrNoiR1 1).target = some .noi ∧ (Instr.wrDmcR1 1).target = some .dmc := by decide

/-- The statements over every command that answers a next state (`StoreAndQueueUntouched`,
`ResponsesOnlyFromReadsAndQueries`, `SequencerAndTimeWriters`, `EventsSumToLevels`): a read, a write and a RESET that do. -/
theorem witness_CommandsAnswerNext :
    exec .rdStatus ntsc = .next { ntsc with responses := [.read 0 true] } ∧ exec .rst ntsc = .next ntsc ∧
    exec (.wrDmcR1 1) ntsc = .next (after (.wrDmcR1 1) ntsc) := ⟨rfl, rfl, rfl⟩

/-- `SequencerAndTimeWriters`: a command that changes each of the five fields. -/
theorem witness_SequencerAndTimeWriters :
    (after (.adv 1) ntsc).frameTime ≠ ntsc.frameTime ∧ (after (.adv 1) ntsc).seqDiv ≠ ntsc.seqDiv ∧
    (after (.wrMode 0) { ntsc with seqIndex := 1 }).seqIndex ≠ 1 ∧ (after (.wrMode 0x80) ntsc).seqMode ≠ ntsc.seqMode ∧
    (after (.clk .pal) ntsc).domain ≠ ntsc.domain := by decide +kernel

/-- `EnabledOnlyByTriggerAfterControl`: each of the four flags is set by its sub-register 3 write. -/
theorem witness_EnabledOnlyByTriggerAfterControl :
    let s := after (.wrStatus 0x0F) ntsc
    (s.p1.enabled = false ∧ (after (.wrP1R3 0) s).p1.enabled = true) ∧
    (s.p2.enabled = false ∧ (after (.wrP2R3 0) s).p2.enabled = true) ∧
    (s.tri.enabled = false ∧ (after (.wrTriR3 0) s).tri.enabled = true) ∧
    (s.noi.enabled = false ∧ (after (.wrNoiR3 0) s).noi.enabled = true) := by decide

/-- `IrqFlagSetAndCleared`: ADVANCE sets the flag; a DMC.0 write, a STATUS write and RESET clear it. -/
theorem witness_IrqFlagSetAndCleared :
    let g := { ntsc.dmc with irqEn := true, timer := 1, bytes := 1 }
    let h := { ntsc.dmc with irq := true }
    (g.irq = false ∧ (after (.adv 1) { ntsc with dmc := g, store := [(0x8000, 0)] }).dmc.irq = true) ∧
    (after (.wrDmcR0 0) { ntsc with dmc := h }).dmc.irq = false ∧
    (after (.wrStatus 0xFF) { ntsc with dmc := h }).dmc.irq = false ∧
    (after .rst { ntsc with dmc := h }).dmc.irq = false := by decide +kernel

/-- `LevelsWrittenByAdvanceDeltaAndReset`: ADVANCE, a DMC.1 write and RESET change a level, the first two with an event. -/
theorem witness_LevelsWrittenByAdvanceDeltaAndReset :
    let s := { ntsc with levels := { Levels.zero with noi := 3 } }
    ((after (.adv 1) s).levels ≠ s.levels ∧ (after (.adv 1) s).events ≠ s.events) ∧
    ((after (.wrDmcR1 1) s).levels ≠ s.levels ∧ (after (.wrDmcR1 1) s).events ≠ s.events) ∧
    (after .rst s).levels ≠ s.levels := by decide +kernel

/-- `AnalogueOutputBounded`. -/
theorem witness_AnalogueOutputBounded : (15 : Nat) ≤ 30 ∧ (0 : Nat) ≤ 15 ∧ (0 : Nat) ≤ 127 := by decide

/-- `EveryStepKeepsInvariant`: a state of the invariant other than the reset state, and its step. -/
theorem witness_EveryStepKeepsInvariant :
    State.Inv { pal with noi := { pal.noi with timer := 4068 }, dmc := { pal.dmc with timer := 428 } } ∧
    step pal = .next pal := ⟨pal_inv _ _ (by decide) (by decide), rfl⟩

end Sys2Proof.Tests
end

/-! ## One step and the head of the queue -/

section
namespace Sys2Proof.Machine

/-- The head of the queue is the next action, and it is taken off (log entry 4). -/
theorem nextAction_of_pending_cons {s : State} {a : HostAction} {rest : List HostAction} (h : s.pending = a :: rest) :
    nextAction s = some (a, { s with pending := rest }) := by
  rw [nextAction, h]

/-- A step performs the head of the queue on the state without it (spec/20_memory.md R86). -/
theorem step_of_pending_cons {s : State} {a : HostAction} {rest : List HostAction} (h : s.pending = a :: rest) :
    step s = runAction a { s with pending := rest } := by
  rw [step, nextAction_of_pending_cons h]

@[simp] theorem runAction_word (w : Word) (s : State) : runAction (.word w) s = runWord w s := rfl

/-- A word with a meaning is run as that command (spec/40_host_commands.md R140). -/
theorem runWord_of_decode_ok {w : Word} {i : Instr} (h : decode w = .ok i) (s : State) : runWord w s = exec i s := by
  rw [runWord, h]

/-- Settles O5: the step performs the word at the head of the queue, and running that word is `exec` of its command. -/
theorem stepRunsDecodedCommand : Obligations.StepRunsDecodedCommand := by
  intro s w rest i hpending hdecode
  calc step s = runAction (.word w) { s with pending := rest } := step_of_pending_cons hpending
    _ = runWord w { s with pending := rest } := runAction_word w _
    _ = exec i { s with pending := rest } := runWord_of_decode_ok hdecode _

end Sys2Proof.Machine
end

/-! ## Every step keeps the invariant (spec/10_state.md R23, R35)

The invariant is kept generator by generator: each update of a generator's fields keeps that generator's ranges, so each
update of the state keeps `State.Inv`; one timer cycle, one master cycle, each command and each host action are
then chains of such updates. -/

section
namespace Sys2Proof.Machine

/-! ### The tables stay within the ranges -/

/-- A noise period latch never exceeds the largest table entry. -/
theorem noisePeriod_le_max (d : Domain) (i : BitVec 4) : (noisePeriod d i).toNat ≤ maxNoisePeriod := by
  cases d <;> revert i <;> decide

/-- R5: no noise period is 0. -/
theorem noisePeriod_ne_zero (d : Domain) (i : BitVec 4) : noisePeriod d i ≠ 0 := by
  cases d <;> revert i <;> decide

/-- A sample period latch never exceeds the largest table entry. -/
theorem dmcPeriod_le_max (d : Domain) (i : BitVec 4) : (dmcPeriod d i).toNat ≤ maxDmcPeriod := by
  cases d <;> revert i <;> decide

/-- R5: no sample period is 0. -/
theorem dmcPeriod_ne_zero (d : Domain) (i : BitVec 4) : dmcPeriod d i ≠ 0 := by
  cases d <;> revert i <;> decide

/-- 254 is the largest entry of `LENGTH_TABLE` (R80). -/
theorem lengthOf_le (i : BitVec 5) : (lengthOf i).toNat ≤ 254 := by
  revert i; decide

theorem lengthLoad_le (data : Byte) : (lengthLoad data).toNat ≤ 254 := lengthOf_le _

/-! ### Counters -/

/-- A counter that is not 0 counts down without wrapping, so it stays under its bound. -/
theorem toNat_sub_one_le {n bound : Nat} {x : BitVec n} (hx : x ≠ 0) (hbound : x.toNat ≤ bound) :
    (x - 1).toNat ≤ bound := by
  have hpos : 0 < x.toNat := Nat.pos_of_ne_zero fun h => hx (BitVec.eq_of_toNat_eq (by simpa using h))
  have hone : (1 : BitVec n) ≤ x := le_trans (Nat.mod_le 1 _) hpos
  rw [BitVec.toNat_sub_of_le hone]
  omega

theorem clockLength_le {halt : Bool} {length : BitVec 8} (h : length.toNat ≤ 254) :
    (clockLength halt length).toNat ≤ 254 := by
  rw [toNat_clockLength]
  split <;> omega

/-- R126: `period + 1` is at most 2048. -/
theorem periodReload_le (period : Period) : (periodReload period).toNat ≤ 2048 := by
  have := Period.toNat_lt period
  unfold periodReload
  bv_omega

/-- R126: `period + 1` is at least 1, so a reloaded timer runs. -/
theorem periodReload_ne_zero (period : Period) : periodReload period ≠ 0 := by
  have := Period.toNat_lt period
  unfold periodReload
  bv_omega

/-! ### Pulse generators (R25) -/

section pulse
variable {g : Pulse}

theorem Pulse.InRange.write0 (h : g.InRange) (data : Byte) : (g.write0 data).InRange := h

theorem Pulse.InRange.write1 (h : g.InRange) (data : Byte) : (g.write1 data).InRange := h

theorem Pulse.InRange.write2 (h : g.InRange) (data : Byte) : (g.write2 data).InRange := h

theorem Pulse.InRange.write3 (h : g.InRange) (data : Byte) : (g.write3 data).InRange := by
  obtain ⟨htimer, -, henabled, hsweep⟩ := h
  exact ⟨htimer, lengthLoad_le data, fun e => (Bool.or_eq_true_iff.mp e).elim henabled id, hsweep⟩

theorem Pulse.InRange.enable (h : g.InRange) (b : Bool) : (g.enable b).InRange := by
  obtain ⟨htimer, hlength, -, hsweep⟩ := h
  exact ⟨htimer, hlength, fun e => (Bool.and_eq_true_iff.mp e).2, hsweep⟩

theorem Pulse.InRange.setTimer (h : g.InRange) {t : BitVec 12} (ht : t.toNat ≤ 2048) :
    ({ g with timer := t } : Pulse).InRange := ⟨ht, h.2⟩

theorem Pulse.InRange.countTimer (h : g.InRange) (hne : g.timer ≠ 0) :
    ({ g with timer := g.timer - 1 } : Pulse).InRange :=
  h.setTimer (toNat_sub_one_le hne h.1)

theorem Pulse.InRange.setDutyStep (h : g.InRange) (k : BitVec 4) : ({ g with dutyStep := k } : Pulse).InRange := h

theorem Pulse.InRange.clockEnvelope (h : g.InRange) : g.clockEnvelope.InRange := h

theorem Pulse.InRange.clockLen (h : g.InRange) : g.clockLen.InRange := by
  obtain ⟨htimer, hlength, hrest⟩ := h
  exact ⟨htimer, clockLength_le hlength, hrest⟩

/-- R10, R198: shifting never enlarges the period, so the target is between `-diff` and twice the largest period. -/
theorem Pulse.sweepTarget_bounds (g : Pulse) (p : PulseId) :
    -1 ≤ g.sweepTarget p.diff ∧ g.sweepTarget p.diff ≤ 4094 := by
  have hperiod := Period.toNat_lt g.period
  have hshift : (g.period >>> g.swShift).toNat ≤ g.period.toNat := by
    rw [BitVec.ushiftRight_eq', BitVec.toNat_ushiftRight]
    exact Nat.shiftRight_le _ _
  have hdiff : 0 ≤ p.diff ∧ p.diff ≤ 1 := by cases p <;> decide
  simp only [Pulse.sweepTarget]
  split <;> omega

theorem Pulse.InRange.sweepDivide (h : g.InRange) (r : Int) : (g.sweepDivide r).InRange := by
  unfold Pulse.sweepDivide
  split <;> exact h

theorem Pulse.InRange.sweepReload (h : g.InRange) : g.sweepReload.InRange := by
  unfold Pulse.sweepReload
  split <;> exact h

theorem Pulse.InRange.sweep (h : g.InRange) (p : PulseId) : (g.sweep p.diff).InRange := by
  obtain ⟨htimer, hlength, henabled, -⟩ := h
  have hresult : ({ g with swResult := g.sweepTarget p.diff } : Pulse).InRange :=
    ⟨htimer, hlength, henabled, g.sweepTarget_bounds p⟩
  exact (hresult.sweepDivide _).sweepReload

theorem Pulse.zero_inRange : Pulse.zero.InRange := by
  refine ⟨?_, ?_, ?_, ?_, ?_⟩ <;> decide

end pulse

/-! ### The triangle generator (R26) -/

section triangle
variable {g : Triangle}

theorem Triangle.InRange.write0 (h : g.InRange) (data : Byte) : (g.write0 data).InRange := h

theorem Triangle.InRange.write2 (h : g.InRange) (data : Byte) : (g.write2 data).InRange := h

theorem Triangle.InRange.write3 (h : g.InRange) (data : Byte) : (g.write3 data).InRange := by
  obtain ⟨htimer, -, henabled⟩ := h
  exact ⟨htimer, lengthLoad_le data, fun e => (Bool.or_eq_true_iff.mp e).elim henabled id⟩

theorem Triangle.InRange.enable (h : g.InRange) (b : Bool) : (g.enable b).InRange := by
  obtain ⟨htimer, hlength, -⟩ := h
  exact ⟨htimer, hlength, fun e => (Bool.and_eq_true_iff.mp e).2⟩

theorem Triangle.InRange.setTimer (h : g.InRange) {t : BitVec 12} (ht : t.toNat ≤ 2048) :
    ({ g with timer := t } : Triangle).InRange := ⟨ht, h.2⟩

theorem Triangle.InRange.countTimer (h : g.InRange) (hne : g.timer ≠ 0) :
    ({ g with timer := g.timer - 1 } : Triangle).InRange :=
  h.setTimer (toNat_sub_one_le hne h.1)

theorem Triangle.InRange.setStep (h : g.InRange) (k : BitVec 5) : ({ g with step := k } : Triangle).InRange := h

theorem Triangle.InRange.clockLinear (h : g.InRange) : g.clockLinear.InRange := h

theorem Triangle.InRange.clockLen (h : g.InRange) : g.clockLen.InRange := by
  obtain ⟨htimer, hlength, henabled⟩ := h
  exact ⟨htimer, clockLength_le hlength, henabled⟩

theorem Triangle.zero_inRange : Triangle.zero.InRange := by
  refine ⟨?_, ?_, ?_⟩ <;> decide

end triangle

/-! ### The noise generator (R27) -/

/-- R259: the shift never empties the register: of the two values whose right shift is 0, the value 1 feeds back a 1. -/
theorem lfsrNext_ne_zero (mode : Bool) {r : BitVec 15} (hr : r ≠ 0) : lfsrNext mode r ≠ 0 := by
  intro hnext
  obtain ⟨hshift, hfeedback⟩ := BitVec.or_eq_zero_iff.mp hnext
  have hone : r = 1 := by
    have hhalf : r.toNat / 2 = 0 := by
      rw [← Nat.shiftRight_one, ← BitVec.toNat_ushiftRight, hshift]
      rfl
    bv_omega
  subst hone
  revert hfeedback
  cases mode <;> decide

section noise
variable {g : Noise}

theorem Noise.InRange.write0 (h : g.InRange) (data : Byte) : (g.write0 data).InRange := h

theorem Noise.InRange.write2 (h : g.InRange) (d : Domain) (data : Byte) : (g.write2 d data).InRange := by
  obtain ⟨htimer, hlength, hlfsr, henabled, -⟩ := h
  exact ⟨htimer, hlength, hlfsr, henabled, d, periodIndexOf data, rfl⟩

theorem Noise.InRange.write3 (h : g.InRange) (data : Byte) : (g.write3 data).InRange := by
  obtain ⟨htimer, -, hlfsr, henabled, hperiod⟩ := h
  exact ⟨htimer, lengthLoad_le data, hlfsr, fun e => (Bool.or_eq_true_iff.mp e).elim henabled id, hperiod⟩

theorem Noise.InRange.enable (h : g.InRange) (b : Bool) : (g.enable b).InRange := by
  obtain ⟨htimer, hlength, hlfsr, -, hperiod⟩ := h
  exact ⟨htimer, hlength, hlfsr, fun e => (Bool.and_eq_true_iff.mp e).2, hperiod⟩

theorem Noise.InRange.setTimer (h : g.InRange) {t : BitVec 12} (ht : t.toNat ≤ maxNoisePeriod) :
    ({ g with timer := t } : Noise).InRange := ⟨ht, h.2⟩

theorem Noise.InRange.countTimer (h : g.InRange) (hne : g.timer ≠ 0) :
    ({ g with timer := g.timer - 1 } : Noise).InRange :=
  h.setTimer (toNat_sub_one_le hne h.1)

theorem Noise.InRange.period_le (h : g.InRange) : g.period.toNat ≤ maxNoisePeriod := by
  obtain ⟨-, -, -, -, d, i, hperiod⟩ := h
  exact hperiod ▸ noisePeriod_le_max d i

theorem Noise.InRange.period_ne_zero (h : g.InRange) : g.period ≠ 0 := by
  obtain ⟨-, -, -, -, d, i, hperiod⟩ := h
  exact hperiod ▸ noisePeriod_ne_zero d i

theorem Noise.InRange.shift (h : g.InRange) : ({ g with lfsr := lfsrNext g.mode g.lfsr } : Noise).InRange := by
  obtain ⟨htimer, hlength, hlfsr, hrest⟩ := h
  exact ⟨htimer, hlength, lfsrNext_ne_zero g.mode hlfsr, hrest⟩

theorem Noise.InRange.clockEnvelope (h : g.InRange) : g.clockEnvelope.InRange := h

theorem Noise.InRange.clockLen (h : g.InRange) : g.clockLen.InRange := by
  obtain ⟨htimer, hlength, hrest⟩ := h
  exact ⟨htimer, clockLength_le hlength, hrest⟩

theorem Noise.afterReset_inRange (d : Domain) : (Noise.afterReset d).InRange := by
  refine ⟨Nat.zero_le _, Nat.zero_le _, ?_, Bool.noConfusion, d, 0, rfl⟩
  show (1 : BitVec 15) ≠ 0
  decide

end noise

/-! ### The sample unit (R28) -/

/-- R126: the longest sample has 4081 bytes. -/
theorem sampleLength_le (lenReg : BitVec 8) : (sampleLength lenReg).toNat ≤ 4081 := by
  have := lenReg.isLt
  unfold sampleLength
  bv_omega

section dmc
variable {g : Dmc}

theorem Dmc.InRange.write0 (h : g.InRange) (d : Domain) (data : Byte) : (g.write0 d data).InRange := by
  obtain ⟨htimer, hbitDiv, hbytes, -⟩ := h
  exact ⟨htimer, hbitDiv, hbytes, d, periodIndexOf data, rfl⟩

theorem Dmc.InRange.write1 (h : g.InRange) (data : Byte) : (g.write1 data).InRange := h

theorem Dmc.InRange.write2 (h : g.InRange) (data : Byte) : (g.write2 data).InRange := h

theorem Dmc.InRange.write3 (h : g.InRange) (data : Byte) : (g.write3 data).InRange := h

theorem Dmc.InRange.setTimer (h : g.InRange) {t : BitVec 9} (ht : t.toNat ≤ maxDmcPeriod) :
    ({ g with timer := t } : Dmc).InRange := ⟨ht, h.2⟩

theorem Dmc.InRange.countTimer (h : g.InRange) (hne : g.timer ≠ 0) :
    ({ g with timer := g.timer - 1 } : Dmc).InRange :=
  h.setTimer (toNat_sub_one_le hne h.1)

theorem Dmc.InRange.period_le (h : g.InRange) : g.period.toNat ≤ maxDmcPeriod := by
  obtain ⟨-, -, -, d, i, hperiod⟩ := h
  exact hperiod ▸ dmcPeriod_le_max d i

theorem Dmc.InRange.period_ne_zero (h : g.InRange) : g.period ≠ 0 := by
  obtain ⟨-, -, -, d, i, hperiod⟩ := h
  exact hperiod ▸ dmcPeriod_ne_zero d i

theorem Dmc.InRange.reload (h : g.InRange) : g.reload.InRange := by
  obtain ⟨htimer, hbitDiv, -, hperiod⟩ := h
  exact ⟨htimer, hbitDiv, sampleLength_le g.lenReg, hperiod⟩

theorem Dmc.InRange.setIrq (h : g.InRange) (b : Bool) : ({ g with irq := b } : Dmc).InRange := h

theorem Dmc.InRange.stop (h : g.InRange) : ({ g with bytes := 0 } : Dmc).InRange := by
  obtain ⟨htimer, hbitDiv, -, hperiod⟩ := h
  exact ⟨htimer, hbitDiv, Nat.zero_le _, hperiod⟩

theorem Dmc.InRange.enable (h : g.InRange) (b : Bool) : (g.enable b).InRange := by
  refine Dmc.InRange.setIrq ?_ false
  split
  · split
    · exact h.reload
    · exact h
  · exact h.stop

theorem Dmc.InRange.sampleEnd (h : g.InRange) : g.sampleEnd.InRange := by
  unfold Dmc.sampleEnd
  split
  · exact h.reload
  · exact h

theorem Dmc.bytes_ne_zero_of_wantsByte (h : g.wantsByte = true) : g.bytes ≠ 0 :=
  of_decide_eq_true (Bool.and_eq_true_iff.mp h).2

theorem Dmc.InRange.takeByte (h : g.InRange) (hbytes : g.bytes ≠ 0) (b : Byte) : (g.takeByte b).InRange := by
  obtain ⟨htimer, hbitDiv, hle, hperiod⟩ := h
  have htaken : ({ g with buffer := b, curAddr := g.curAddr + 1, bytes := g.bytes - 1, filled := true } : Dmc).InRange :=
    ⟨htimer, hbitDiv, toNat_sub_one_le hbytes hle, hperiod⟩
  unfold Dmc.takeByte
  simp only
  split
  · exact htaken.sampleEnd
  · exact htaken

theorem Dmc.InRange.startOutput (h : g.InRange) : g.startOutput.InRange := by
  obtain ⟨htimer, hbitDiv, hrest⟩ := h
  unfold Dmc.startOutput
  split
  · split <;> exact ⟨htimer, le_refl 8, hrest⟩
  · exact ⟨htimer, hbitDiv, hrest⟩

/-- R282: an output cycle in progress has bits left. -/
theorem Dmc.startOutput_bitDiv_ne_zero (g : Dmc) : g.startOutput.bitDiv ≠ 0 := by
  unfold Dmc.startOutput
  split
  · split <;> exact (by decide : (8 : BitVec 4) ≠ 0)
  · assumption

theorem Dmc.InRange.outputBit (h : g.InRange) : g.outputBit.InRange := by
  obtain ⟨htimer, hbitDiv, hrest⟩ := h.startOutput
  exact ⟨htimer, toNat_sub_one_le g.startOutput_bitDiv_ne_zero hbitDiv, hrest⟩

theorem Dmc.afterReset_inRange (d : Domain) : (Dmc.afterReset d).InRange :=
  ⟨dmcPeriod_le_max d 0, Nat.zero_le _, Nat.zero_le _, d, 0, rfl⟩

end dmc

/-! ### Updates of the state -/

section updates
variable {s : State}

theorem State.Inv.pulse (h : s.Inv) : ∀ p, (s.pulse p).InRange
  | .p1 => h.p1
  | .p2 => h.p2

theorem State.Inv.setPulse (h : s.Inv) (p : PulseId) {g : Pulse} (hg : g.InRange) : (s.setPulse p g).Inv := by
  cases p with
  | p1 => exact { h with p1 := hg }
  | p2 => exact { h with p2 := hg }

theorem State.Inv.setTri (h : s.Inv) {g : Triangle} (hg : g.InRange) : ({ s with tri := g } : State).Inv :=
  { h with tri := hg }

theorem State.Inv.setNoise (h : s.Inv) {g : Noise} (hg : g.InRange) : ({ s with noi := g } : State).Inv :=
  { h with noi := hg }

theorem State.Inv.setDmc (h : s.Inv) {g : Dmc} (hg : g.InRange) : ({ s with dmc := g } : State).Inv :=
  { h with dmc := hg }

theorem State.Inv.setLevel (h : s.Inv) (ch : Channel) (v : Nat) (t : Time) : (setLevel ch v t s).Inv := by
  unfold Machine.setLevel
  split
  · exact h
  · exact { h with }

theorem State.Inv.noteFetch (h : s.Inv) (t : Time) (a : Addr) : (noteFetch t a s).Inv := { h with }

theorem State.Inv.respond (h : s.Inv) (r : Response) : (s.respond r).Inv := { h with }

theorem State.Inv.setFrameTime (h : s.Inv) (t : Time) : ({ s with frameTime := t } : State).Inv := { h with }

theorem State.Inv.setDomain (h : s.Inv) (d : Domain) : ({ s with domain := d } : State).Inv := { h with }

theorem State.Inv.setPending (h : s.Inv) (l : List HostAction) : ({ s with pending := l } : State).Inv := { h with }

theorem State.Inv.setStore (h : s.Inv) {m : Memory} (hm : m.wf = true) : ({ s with store := m } : State).Inv :=
  { h with store := hm }

end updates

/-- Every `SEQ_PERIOD` is a valid divider (R5). -/
theorem seqPeriod_bounds (d : Domain) :
    1 ≤ (seqPeriod d).toNat ∧ (seqPeriod d).toNat ≤ max (seqPeriod .ntsc).toNat (seqPeriod .pal).toNat := by
  cases d <;> decide

/-- R33 in either domain: the reset values meet every range, and RESET leaves the store alone. -/
theorem State.Inv.resetBlock {s : State} (h : s.Inv) : (resetBlock s).Inv where
  p1 := Pulse.zero_inRange
  p2 := Pulse.zero_inRange
  tri := Triangle.zero_inRange
  noi := Noise.afterReset_inRange s.domain
  dmc := Dmc.afterReset_inRange s.domain
  index := Nat.zero_le 3
  divider := seqPeriod_bounds s.domain
  store := h.store

/-! ### Timers and fires -/

/-- Whatever the fire keeps, a timer cycle keeps, when the fire leaves a running timer and a running timer may count:
the timer is then never counted at 0. -/
theorem countCycle_preserves {n : Nat} {timer : State → BitVec n} {setTimer : State → BitVec n → State}
    {fire : Time → State → State} (P : State → Prop) (hfire : ∀ t s, P s → P (fire t s))
    (hruns : ∀ t s, P s → timer (fire t s) ≠ 0) (hcount : ∀ s, P s → timer s ≠ 0 → P (setTimer s (timer s - 1)))
    (now : Time) {s : State} (h : P s) : P (countCycle timer setTimer fire now s) := by
  have hdue : P (if timer s = 0 then fire now s else s) ∧ timer (if timer s = 0 then fire now s else s) ≠ 0 := by
    split
    · exact ⟨hfire now s h, hruns now s h⟩
    · exact ⟨h, ‹_›⟩
  unfold countCycle
  simp only
  generalize (if timer s = 0 then fire now s else s) = due at hdue ⊢
  have hcounted := hcount due hdue.1 hdue.2
  split
  · exact hfire _ _ hcounted
  · exact hcounted

section fires
variable {s : State}

theorem State.Inv.firePulse (h : s.Inv) (p : PulseId) (t : Time) : (firePulse p t s).Inv :=
  (h.setLevel _ _ _).setPulse p ((h.pulse p).setDutyStep _)

theorem State.Inv.firePulseReload (h : s.Inv) (p : PulseId) (t : Time) : (firePulseReload p t s).Inv :=
  (h.firePulse p t).setPulse p (((h.firePulse p t).pulse p).setTimer (periodReload_le _))

theorem firePulseReload_timer_ne_zero (p : PulseId) (t : Time) (s : State) :
    ((firePulseReload p t s).pulse p).timer ≠ 0 := by
  simp only [firePulseReload, State.pulse_setPulse]
  exact periodReload_ne_zero _

theorem State.Inv.pulseCycle (h : s.Inv) (p : PulseId) (now : Time) : (pulseCycle p now s).Inv := by
  unfold Machine.pulseCycle
  split
  · exact h
  · exact countCycle_preserves State.Inv (fun t _ hs => hs.firePulseReload p t)
      (fun t s _ => firePulseReload_timer_ne_zero p t s)
      (fun _ hs hne => hs.setPulse p ((hs.pulse p).countTimer hne)) now h

theorem State.Inv.fireTri (h : s.Inv) (t : Time) : (fireTri t s).Inv :=
  (h.setLevel _ _ _).setTri (h.tri.setStep _)

theorem State.Inv.fireTriReload (h : s.Inv) (t : Time) : (fireTriReload t s).Inv :=
  (h.fireTri t).setTri ((h.fireTri t).tri.setTimer (periodReload_le _))

theorem State.Inv.triUltrasonic (h : s.Inv) (now : Time) : (triUltrasonic now s).Inv :=
  (h.setLevel _ _ _).setTri (h.tri.setStep 7)

theorem State.Inv.triCycle (h : s.Inv) (now : Time) : (triCycle now s).Inv := by
  unfold Machine.triCycle
  split
  · exact h
  · split
    · exact h.triUltrasonic now
    · exact countCycle_preserves State.Inv (fun t _ hs => hs.fireTriReload t)
        (fun _ _ _ => periodReload_ne_zero _)
        (fun _ hs hne => hs.setTri (hs.tri.countTimer hne)) now h

theorem State.Inv.fireNoise (h : s.Inv) (t : Time) : (fireNoise t s).Inv :=
  (h.setLevel _ _ _).setNoise h.noi.shift

theorem State.Inv.fireNoiseReload (h : s.Inv) (t : Time) : (fireNoiseReload t s).Inv :=
  (h.fireNoise t).setNoise ((h.fireNoise t).noi.setTimer (h.fireNoise t).noi.period_le)

theorem State.Inv.noiseCycle (h : s.Inv) (now : Time) : (noiseCycle now s).Inv :=
  countCycle_preserves State.Inv (fun t _ hs => hs.fireNoiseReload t)
    (fun t _ hs => (hs.fireNoise t).noi.period_ne_zero)
    (fun _ hs hne => hs.setNoise (hs.noi.countTimer hne)) now h

theorem State.Inv.dmcReader (h : s.Inv) (t : Time) : (dmcReader t s).Inv := by
  unfold Machine.dmcReader
  split
  next hwants => exact (h.noteFetch _ _).setDmc (h.dmc.takeByte (Dmc.bytes_ne_zero_of_wantsByte hwants) _)
  next => exact h

theorem State.Inv.dmcOutput (h : s.Inv) (t : Time) : (dmcOutput t s).Inv :=
  (h.setDmc h.dmc.outputBit).setLevel _ _ _

theorem State.Inv.fireDmc (h : s.Inv) (t : Time) : (fireDmc t s).Inv :=
  (h.dmcReader t).dmcOutput t

theorem State.Inv.fireDmcReload (h : s.Inv) (t : Time) : (fireDmcReload t s).Inv :=
  (h.fireDmc t).setDmc ((h.fireDmc t).dmc.setTimer (h.fireDmc t).dmc.period_le)

theorem State.Inv.dmcCycle (h : s.Inv) (now : Time) : (dmcCycle now s).Inv :=
  countCycle_preserves State.Inv (fun t _ hs => hs.fireDmcReload t)
    (fun t _ hs => (hs.fireDmc t).dmc.period_ne_zero)
    (fun _ hs hne => hs.setDmc (hs.dmc.countTimer hne)) now h

theorem State.Inv.generatorsCycle (h : s.Inv) (now : Time) : (generatorsCycle now s).Inv :=
  ((((h.pulseCycle .p1 now).pulseCycle .p2 now).triCycle now).noiseCycle now).dmcCycle now

end fires

/-! ### The frame sequencer -/

section sequencer
variable {s : State}

theorem State.Inv.tickFast (h : s.Inv) : (tickFast s).Inv :=
  { h with
    p1 := h.p1.clockEnvelope, p2 := h.p2.clockEnvelope, noi := h.noi.clockEnvelope, tri := h.tri.clockLinear }

theorem State.Inv.tickSlow (h : s.Inv) : (tickSlow s).Inv :=
  { h with
    p1 := (h.p1.sweep .p1).clockLen, p2 := (h.p2.sweep .p2).clockLen, tri := h.tri.clockLen, noi := h.noi.clockLen }

theorem State.Inv.runTicks (h : s.Inv) (fast slow reserved : Bool) : (runTicks fast slow reserved s).Inv := by
  have hfast : (if fast then Machine.tickFast s else s).Inv := by
    split
    · exact h.tickFast
    · exact h
  have hslow := hfast.tickSlow
  unfold Machine.runTicks
  cases slow <;> cases reserved <;> assumption

/-- R23: the index after a step is taken modulo the number of indices of the mode. -/
theorem State.Inv.setNextIndex (h : s.Inv) : ({ s with seqIndex := nextIndex s.seqMode s.seqIndex } : State).Inv := by
  refine { h with index := ?_ }
  unfold State.IndexValid nextIndex
  cases s.seqMode with
  | fourStep => simp only [BitVec.toNat_ofNat]; omega
  | fiveStep => simp only [BitVec.toNat_ofNat]; omega

theorem State.Inv.seqStep (h : s.Inv) : (seqStep s).Inv := h.setNextIndex.runTicks _ _ _

theorem State.Inv.clockSequencer (h : s.Inv) : (clockSequencer s).Inv := by
  obtain ⟨hne, heq⟩ | ⟨-, heq⟩ := clockSequencer_cases s
  · rw [heq]
    obtain ⟨hlo, hhi⟩ := h.divider
    have hrunning : s.seqDiv ≠ 0 := by bv_omega
    have hcounted : 1 ≤ (s.seqDiv - 1).toNat := by bv_omega
    exact { h with divider := ⟨hcounted, toNat_sub_one_le hrunning hhi⟩ }
  · rw [heq]
    have hreloaded : ({ s with seqDiv := seqPeriod s.domain } : State).Inv :=
      { h with divider := seqPeriod_bounds s.domain }
    exact hreloaded.seqStep

/-- One master cycle keeps the invariant (R149). -/
theorem State.Inv.cycle (h : s.Inv) : (cycle s).Inv := by
  unfold Machine.cycle
  exact ((h.generatorsCycle s.frameTime).setFrameTime _).clockSequencer

theorem State.Inv.advance (h : s.Inv) (n : Nat) : (advance n s).Inv :=
  advance_preserves State.Inv (fun _ hs => hs.cycle) n s h

end sequencer

/-! ### Commands, host actions, steps -/

/-- The state an outcome answers meets the invariant when the state it is computed as does. -/
theorem State.Inv.of_next_eq {u t : State} (h : u.Inv)
    (hnext : (.next u : Host.Outcome State Fault Refusal) = .next t) : t.Inv :=
  Host.Outcome.next.inj hnext ▸ h

/-- R171: both forms start the index at 0; the one with bit 7 set also fires one whole pass. -/
theorem State.Inv.execWrMode {s t : State} (h : s.Inv) {data : Byte} (hexec : execWrMode data s = .next t) : t.Inv := by
  unfold Machine.execWrMode at hexec
  split at hexec
  · have hfive : ({ s with seqIndex := 0, seqMode := .fiveStep } : State).Inv := { h with index := Nat.zero_le 4 }
    exact (hfive.runTicks true true true).of_next_eq hexec
  · have hfour : ({ s with seqIndex := 0, seqMode := .fourStep } : State).Inv := { h with index := Nat.zero_le 3 }
    exact hfour.of_next_eq hexec

/-- R143: STATUS runs the five enable controls. -/
theorem State.Inv.execWrStatus {s t : State} (h : s.Inv) {data : Byte} (hexec : execWrStatus data s = .next t) :
    t.Inv := by
  refine State.Inv.of_next_eq ?_ hexec
  exact { h with
    p1 := h.p1.enable _, p2 := h.p2.enable _, tri := h.tri.enable _, noi := h.noi.enable _, dmc := h.dmc.enable _ }

/-- Every command keeps the invariant. -/
theorem State.Inv.exec {s t : State} (h : s.Inv) (i : Instr) (hexec : exec i s = .next t) : t.Inv := by
  cases i with
  | wrP1R0 d => exact (h.setPulse .p1 (h.p1.write0 d)).of_next_eq hexec
  | wrP1R1 d => exact (h.setPulse .p1 (h.p1.write1 d)).of_next_eq hexec
  | wrP1R2 d => exact (h.setPulse .p1 (h.p1.write2 d)).of_next_eq hexec
  | wrP1R3 d => exact (h.setPulse .p1 (h.p1.write3 d)).of_next_eq hexec
  | wrP2R0 d => exact (h.setPulse .p2 (h.p2.write0 d)).of_next_eq hexec
  | wrP2R1 d => exact (h.setPulse .p2 (h.p2.write1 d)).of_next_eq hexec
  | wrP2R2 d => exact (h.setPulse .p2 (h.p2.write2 d)).of_next_eq hexec
  | wrP2R3 d => exact (h.setPulse .p2 (h.p2.write3 d)).of_next_eq hexec
  | wrTriR0 d => exact (h.setTri (h.tri.write0 d)).of_next_eq hexec
  | wrTriR2 d => exact (h.setTri (h.tri.write2 d)).of_next_eq hexec
  | wrTriR3 d => exact (h.setTri (h.tri.write3 d)).of_next_eq hexec
  | wrNoiR0 d => exact (h.setNoise (h.noi.write0 d)).of_next_eq hexec
  | wrNoiR2 d => exact (h.setNoise (h.noi.write2 s.domain d)).of_next_eq hexec
  | wrNoiR3 d => exact (h.setNoise (h.noi.write3 d)).of_next_eq hexec
  | wrDmcR0 d => exact (h.setDmc (h.dmc.write0 s.domain d)).of_next_eq hexec
  | wrDmcR1 d => exact ((h.setDmc (h.dmc.write1 d)).setLevel .dmc _ _).of_next_eq hexec
  | wrDmcR2 d => exact (h.setDmc (h.dmc.write2 d)).of_next_eq hexec
  | wrDmcR3 d => exact (h.setDmc (h.dmc.write3 d)).of_next_eq hexec
  | wrStatus d => exact h.execWrStatus hexec
  | wrMode d => exact h.execWrMode hexec
  | adv n => exact (h.advance n.toNat).of_next_eq hexec
  | rst => exact h.resetBlock.of_next_eq hexec
  | eof => exact (h.setFrameTime 0).of_next_eq hexec
  | clk d => exact (h.setDomain d).of_next_eq hexec
  | rdStatus | rdUnmapped _ | getpP1 | getpP2 | getpTri | getpNoi | getpDmc => exact (h.respond _).of_next_eq hexec
  | wrTriR1 _ | wrNoiR1 _ | wrX14 _ | wrX16 _ | wrX18 _ | wrX19 _ | wrX1A _ | wrX1B _ | wrX1C _ | wrX1D _ | wrX1E _
  | wrX1F _ | wrOut _ _ => exact h.of_next_eq hexec

theorem State.Inv.runWord {s t : State} (h : s.Inv) (w : Word) (hrun : runWord w s = .next t) : t.Inv := by
  cases hdecode : decode w with
  | ok i => exact h.exec i (runWord_of_decode_ok hdecode s ▸ hrun)
  | error why => simp [Machine.runWord, hdecode] at hrun

theorem State.Inv.runLoad {s t : State} (h : s.Inv) (bytes : List Byte) (hrun : runLoad bytes s = .next t) : t.Inv := by
  unfold Machine.runLoad at hrun
  split at hrun
  next hlength => exact (h.setStore (Memory.wf_load bytes hlength)).of_next_eq hrun
  next => cases hrun

/-- Every host action keeps the invariant. -/
theorem State.Inv.runAction {s t : State} (h : s.Inv) (a : HostAction) (hrun : runAction a s = .next t) : t.Inv := by
  cases a with
  | word w => exact h.runWord w hrun
  | load bytes => exact h.runLoad bytes hrun
  | clear => exact (h.setStore Memory.wf_clear).of_next_eq hrun

/-- With nothing pending the block is idle (spec/60_exceptions.md R332). -/
theorem step_of_pending_nil {s : State} (h : s.pending = []) : step s = .next s := by
  rw [step, nextAction, h]

/-- Settles O54: the step is idle or performs one host action on the state with the queue's head taken off, and every
host action keeps the invariant. -/
theorem everyStepKeepsInvariant : Obligations.EveryStepKeepsInvariant := by
  intro s t h hstep
  cases hpending : s.pending with
  | nil => exact h.of_next_eq (step_of_pending_nil hpending ▸ hstep)
  | cons a rest => exact (h.setPending rest).runAction a (step_of_pending_cons hpending ▸ hstep)

end Sys2Proof.Machine
end

/-! ## Reserved words (spec/30_encoding.md R107)

The fields of a word are read as numbers, so that the decoder's tests and `ReservedWord` speak of the same quotients and
remainders of the word's value; the decoder's branches are then compared with it one by one. -/

section
namespace Sys2Proof.Machine

/-! ### The fields of a word as numbers -/

section fieldValues
variable (w : Word)

/-- Bits 31:28 (R100). -/
theorem toNat_opField : (opField w).toNat = w.toNat / 2 ^ 28 := by
  rw [opField, BitVec.extractLsb'_toNat, Nat.shiftRight_eq_div_pow]
  omega

/-- Bits 27:24 (R101, R102). -/
theorem zeroField_eq_zero_iff : zeroField w = 0 ↔ w.toNat / 2 ^ 24 % 2 ^ 4 = 0 := by
  rw [← BitVec.toNat_inj, zeroField, BitVec.extractLsb'_toNat, Nat.shiftRight_eq_div_pow]
  rfl

/-- Bits 7:0 (R102). -/
theorem dataField_eq_zero_iff : dataField w = 0 ↔ w.toNat % 2 ^ 8 = 0 := by
  rw [← BitVec.toNat_inj, dataField, BitVec.extractLsb'_toNat]
  rfl

/-- Bits 27:0 (R104). -/
theorem lowField_eq_zero_iff : lowField w = 0 ↔ w.toNat % 2 ^ 28 = 0 := by
  rw [← BitVec.toNat_inj, lowField, BitVec.extractLsb'_toNat]
  rfl

/-- Bits 27:1 (R105). -/
theorem zeroFieldC_eq_zero_iff : zeroFieldC w = 0 ↔ w.toNat / 2 % 2 ^ 27 = 0 := by
  rw [← BitVec.toNat_inj, zeroFieldC, BitVec.extractLsb'_toNat, Nat.shiftRight_one]
  rfl

/-- Bits 27:3 (R106). -/
theorem zeroFieldQ_eq_zero_iff : zeroFieldQ w = 0 ↔ w.toNat / 2 ^ 3 % 2 ^ 25 = 0 := by
  rw [← BitVec.toNat_inj, zeroFieldQ, BitVec.extractLsb'_toNat, Nat.shiftRight_eq_div_pow]
  rfl

/-- Bits 2:0 (R106). -/
theorem toNat_channelField : (channelField w).toNat = w.toNat % 2 ^ 3 := by
  rw [channelField, BitVec.extractLsb'_toNat, Nat.shiftRight_zero]

end fieldValues

/-! ### Where the decoder answers an error -/

/-- A format with a test rejects the words that fail it, and those that what follows the test rejects. -/
theorem exists_ite_error_iff {c : Prop} [Decidable c] {x : Except DecodeError Instr} {e : DecodeError} :
    (∃ why, (if c then x else .error e) = .error why) ↔ ¬ c ∨ ∃ why, x = .error why := by
  split <;> simp [*]

/-- R106, U9: channels 5, 6 and 7 name no generator. -/
theorem exists_periodCommand_error_iff (c : BitVec 3) : (∃ why, periodCommand c = .error why) ↔ 5 ≤ c.toNat := by
  unfold periodCommand
  split
  case h_6 =>
    simp only [imp_false] at *
    exact iff_of_true ⟨_, rfl⟩ (by omega)
  all_goals exact iff_of_false nofun (by omega)

/-- R107 by the fields of the word. -/
theorem reservedWord_iff_fields (w : Word) : ReservedWord w ↔
    (opField w).toNat = 0 ∨ 8 ≤ (opField w).toNat ∨
    (((opField w).toNat = 1 ∨ (opField w).toNat = 2) ∧ zeroField w ≠ 0) ∨
    ((opField w).toNat = 2 ∧ dataField w ≠ 0) ∨
    (((opField w).toNat = 4 ∨ (opField w).toNat = 5) ∧ lowField w ≠ 0) ∨
    ((opField w).toNat = 6 ∧ zeroFieldC w ≠ 0) ∨
    ((opField w).toNat = 7 ∧ zeroFieldQ w ≠ 0) ∨
    ((opField w).toNat = 7 ∧ 5 ≤ (channelField w).toNat) := by
  simp only [ReservedWord, toNat_opField, toNat_channelField, ne_eq, zeroField_eq_zero_iff, dataField_eq_zero_iff,
    lowField_eq_zero_iff, zeroFieldC_eq_zero_iff, zeroFieldQ_eq_zero_iff]

/-- R107: the decoder rejects exactly the reserved words. -/
theorem reservedWord_iff_exists_decode_error (w : Word) : ReservedWord w ↔ ∃ why, decode w = .error why := by
  rw [reservedWord_iff_fields, decode]
  split
  case h_1 hop | h_2 hop | h_4 hop | h_5 hop | h_6 hop => simp [hop, exists_ite_error_iff, imp_iff_not_or]
  case h_3 hop => simp [hop]
  case h_7 hop => simp [hop, exists_ite_error_iff, exists_periodCommand_error_iff]
  case h_8 =>
    simp only [imp_false] at *
    have hop : (opField w).toNat = 0 ∨ 8 ≤ (opField w).toNat := by omega
    exact iff_of_true (hop.imp_right .inl) ⟨_, rfl⟩

/-- A reserved word is refused under the decoder's reason (R107). -/
theorem runWord_of_decode_error {w : Word} {why : DecodeError} (h : decode w = .error why) (s : State) :
    runWord w s = .refused (.reservedWord why) := by
  rw [runWord, h]

/-- Settles O4: `ReservedWord` and the decoder's tests agree branch by branch, and the step runs the word at the head of
the queue, so the decoder's error is its refusal. -/
theorem reservedWordsRefused : Obligations.ReservedWordsRefused := by
  intro w
  refine ⟨reservedWord_iff_exists_decode_error w, fun hreserved s rest hpending => ?_⟩
  obtain ⟨why, hdecode⟩ := (reservedWord_iff_exists_decode_error w).mp hreserved
  refine ⟨why, ?_⟩
  calc step s = runAction (.word w) { s with pending := rest } := step_of_pending_cons hpending
    _ = runWord w { s with pending := rest } := runAction_word w _
    _ = .refused (.reservedWord why) := runWord_of_decode_error hdecode _

end Sys2Proof.Machine
end

/-! ## Responses (spec/30_encoding.md R109) -/

section
namespace Sys2Proof.Machine

/-- A sequencer step answers nothing (R172). -/
@[simp] theorem seqStep_responses (s : State) : (seqStep s).responses = s.responses := by simp [seqStep]

@[simp] theorem clockSequencer_responses (s : State) : (clockSequencer s).responses = s.responses := by
  obtain ⟨-, heq⟩ | ⟨-, heq⟩ := clockSequencer_cases s <;> simp [heq]

@[simp] theorem generatorsCycle_responses (now : Time) (s : State) :
    (generatorsCycle now s).responses = s.responses := by
  obtain ⟨-, -, -, -, -, -, -, hresponses⟩ := generatorsCycle_agreeOnRest now s
  exact hresponses.symm

/-- A master cycle answers nothing (R149). -/
@[simp] theorem cycle_responses (s : State) : (cycle s).responses = s.responses := by simp [cycle]

@[simp] theorem advance_responses (n : Nat) (s : State) : (advance n s).responses = s.responses :=
  advance_keeps (fun a b => b.responses = a.responses) (fun _ => rfl) (fun _ _ _ hab hbc => hbc.trans hab)
    cycle_responses n s

theorem execWrMode_responses {data : Byte} {s t : State} (hexec : execWrMode data s = .next t) :
    t.responses = s.responses := by
  unfold execWrMode at hexec
  split at hexec <;> cases hexec
  · exact runTicks_responses _ _ _ _
  · rfl

/-- READ (R146, R147) and GETPERIOD (R154), the commands that answer (R109). -/
def IsReadOrGetPeriod (i : Instr) : Prop :=
  i = .rdStatus ∨ (∃ a, i = .rdUnmapped a) ∨ i = .getpP1 ∨ i = .getpP2 ∨ i = .getpTri ∨ i = .getpNoi ∨ i = .getpDmc

/-- A READ or GETPERIOD does nothing but give its response. -/
theorem exec_of_isReadOrGetPeriod {i : Instr} (h : IsReadOrGetPeriod i) (s : State) :
    ∃ r, exec i s = .next (s.respond r) := by
  obtain rfl | ⟨a, rfl⟩ | rfl | rfl | rfl | rfl | rfl := h <;> exact ⟨_, rfl⟩

/-- Every command but READ and GETPERIOD leaves the responses as they were. -/
theorem exec_responses_of_not_isReadOrGetPeriod {i : Instr} (h : ¬ IsReadOrGetPeriod i) {s t : State}
    (hexec : exec i s = .next t) : t.responses = s.responses := by
  cases i with
  | rdStatus | rdUnmapped _ | getpP1 | getpP2 | getpTri | getpNoi | getpDmc =>
    exact absurd (by simp [IsReadOrGetPeriod]) h
  | wrMode d => exact execWrMode_responses hexec
  | adv n =>
    cases hexec
    exact advance_responses _ s
  | wrDmcR1 d =>
    cases hexec
    exact State.setLevel_responses _ _ _ _
  | _ =>
    cases hexec
    rfl

/-- Settles O46: a READ or GETPERIOD is one response, and of the other commands only the parts that touch no response
are run. -/
theorem responsesOnlyFromReadsAndQueries : Obligations.ResponsesOnlyFromReadsAndQueries := by
  intro i s t hexec
  split
  case isTrue h =>
    obtain ⟨r, hnext⟩ := exec_of_isReadOrGetPeriod h s
    cases hnext.symm.trans hexec
    exact ⟨r, State.respond_responses s r⟩
  case isFalse h => exact exec_responses_of_not_isReadOrGetPeriod h hexec

end Sys2Proof.Machine
end

/-! ## The sweep register (spec/30_encoding.md R111; spec/42_pulse.md R192, R206) -/

section
namespace Sys2Proof.Machine

/-- A flag is set exactly when its bit of the data byte is 1. -/
theorem flagBit_eq_true_iff (data : Byte) (k : Nat) : flagBit data k = true ↔ data.toNat / 2 ^ k % 2 = 1 := by
  rw [flagBit, BitVec.getLsbD, Nat.testBit_eq_decide_div_mod_eq, decide_eq_true_iff]

/-- Nothing stands above bit 7 of a data byte. -/
theorem flagBit_seven_eq_true_iff (data : Byte) : flagBit data 7 = true ↔ data.toNat / 2 ^ 7 = 1 := by
  rw [flagBit_eq_true_iff]
  omega

/-- Bits 6:4 (R111). -/
theorem toNat_swPeriodOf (data : Byte) : (swPeriodOf data).toNat = data.toNat / 2 ^ 4 % 2 ^ 3 := by
  rw [swPeriodOf, BitVec.extractLsb'_toNat, Nat.shiftRight_eq_div_pow]

/-- Bits 2:0 (R111). -/
theorem toNat_swShiftOf (data : Byte) : (swShiftOf data).toNat = data.toNat % 2 ^ 3 := by
  rw [swShiftOf, BitVec.extractLsb'_toNat, Nat.shiftRight_zero]

/-- Settles O14: both commands put `Pulse.write1` of the data in place of their generator's fields, and its four latches
are the flags and fields of R111. -/
theorem pulseSweepWrite : Obligations.PulseSweepWrite := by
  intro data s
  refine ⟨s.p1.write1 data, s.p2.write1 data, rfl, rfl, fun old new hwrite => ?_⟩
  have hnew : new = old.write1 data := by
    obtain ⟨rfl, rfl⟩ | ⟨rfl, rfl⟩ := hwrite <;> rfl
  subst hnew
  exact ⟨rfl, flagBit_seven_eq_true_iff data, toNat_swPeriodOf data, flagBit_eq_true_iff data 3, toNat_swShiftOf data⟩

end Sys2Proof.Machine
end

/-! ## The slicing schedule (spec/40_host_commands.md R150, R151)

A cycle of one generator is a function of what that generator sees (`SameView`) and touches nothing else, so a schedule is
known by how many cycles each generator has processed from when on, in whatever order and slices (`Processed`). Up to
the next sequencer step ADVANCE and the schedule both process as many cycles of every generator; the sequencer step and
all later cycles respect equality up to the interleaving of events, so the passes of the schedule can be chained. -/

section
namespace Sys2Proof
open Machine

/-! ### Agreement is an equivalence -/

theorem AgreeOn.refl (c : Channel) (a : State) : AgreeOn c a a := by
  refine ⟨?_, rfl, rfl⟩
  cases c with
  | dmc => exact ⟨rfl, rfl, rfl⟩
  | _ => rfl

theorem AgreeOn.symm {c : Channel} {a b : State} (h : AgreeOn c a b) : AgreeOn c b a := by
  obtain ⟨hgenerator, hlevel, hevents⟩ := h
  refine ⟨?_, hlevel.symm, hevents.symm⟩
  cases c with
  | dmc =>
    obtain ⟨hdmc, hfetches, hdraws⟩ := hgenerator
    exact ⟨hdmc.symm, hfetches.symm, hdraws.symm⟩
  | _ => exact Eq.symm hgenerator

theorem AgreeOn.trans {c : Channel} {x y z : State} (h : AgreeOn c x y) (h' : AgreeOn c y z) : AgreeOn c x z := by
  obtain ⟨hgenerator, hlevel, hevents⟩ := h
  obtain ⟨hgenerator', hlevel', hevents'⟩ := h'
  refine ⟨?_, hlevel.trans hlevel', hevents.trans hevents'⟩
  cases c with
  | dmc =>
    obtain ⟨hdmc, hfetches, hdraws⟩ := hgenerator
    obtain ⟨hdmc', hfetches', hdraws'⟩ := hgenerator'
    exact ⟨hdmc.trans hdmc', hfetches.trans hfetches', hdraws.trans hdraws'⟩
  | _ => exact Eq.trans hgenerator hgenerator'

theorem AgreeOnRest.refl (a : State) : AgreeOnRest a a := ⟨rfl, rfl, rfl, rfl, rfl, rfl, rfl, rfl⟩

theorem AgreeOnRest.symm {a b : State} (h : AgreeOnRest a b) : AgreeOnRest b a := by
  simp_all [AgreeOnRest]

theorem AgreeOnRest.trans {a b c : State} (h : AgreeOnRest a b) (h' : AgreeOnRest b c) : AgreeOnRest a c := by
  simp_all [AgreeOnRest]

theorem AgreeOnRest.frameTime_eq {a b : State} (h : AgreeOnRest a b) : a.frameTime = b.frameTime := by
  obtain ⟨-, -, -, -, hframeTime, -⟩ := h
  exact hframeTime

theorem AgreeOnRest.seqDiv_eq {a b : State} (h : AgreeOnRest a b) : a.seqDiv = b.seqDiv := by
  obtain ⟨-, -, hseqDiv, -⟩ := h
  exact hseqDiv

theorem AgreeOnRest.store_eq {a b : State} (h : AgreeOnRest a b) : a.store = b.store := by
  obtain ⟨-, -, -, -, -, hstore, -⟩ := h
  exact hstore

/-- The two states look the same to generator `c`: all that a cycle of it reads or writes. -/
structure SameView (c : Channel) (a b : State) : Prop where
  agree : AgreeOn c a b
  store : a.store = b.store

/-! ### A cycle of one generator is a function of its view -/

/-- The level register a set writes does not keep what it held. -/
theorem Machine.Levels.get_set_congr (l l' : Levels) (c : Channel) (v : Nat) : (l.set c v).get c = (l'.set c v).get c := by
  cases c <;> rfl

theorem levelChange_congr {a b : State} {c : Channel} (h : a.levels.get c = b.levels.get c) (v : Nat) (t : Time) :
    levelChange c v t a = levelChange c v t b := by
  rw [levelChange, h, levelChange]

section views
variable {a b : State}

theorem SameView.setLevel {c : Channel} (h : SameView c a b) (v : Nat) (t : Time) :
    SameView c (setLevel c v t a) (setLevel c v t b) := by
  obtain ⟨⟨hgenerator, hlevel, hevents⟩, hstore⟩ := h
  refine ⟨⟨?_, ?_, ?_⟩, by simpa using hstore⟩
  · cases c <;> simpa [SameGenerator] using hgenerator
  · unfold Machine.setLevel
    rw [hlevel]
    split
    · exact hlevel
    · exact Levels.get_set_congr _ _ c v
  · simp [hevents, levelChange_congr hlevel]

/-- Two timers in step stay in step, with all that their fires keep in step. -/
theorem countCycle_rel {n : Nat} {timer : State → BitVec n} {setTimer : State → BitVec n → State}
    {fire : Time → State → State} (R : State → State → Prop) (htimer : ∀ {a b}, R a b → timer a = timer b)
    (hset : ∀ {a b}, R a b → ∀ k, R (setTimer a k) (setTimer b k))
    (hfire : ∀ {a b}, R a b → ∀ t, R (fire t a) (fire t b)) (now : Time) (h : R a b) :
    R (countCycle timer setTimer fire now a) (countCycle timer setTimer fire now b) := by
  have hdue : R (if timer a = 0 then fire now a else a) (if timer b = 0 then fire now b else b) := by
    rw [htimer h]
    split
    · exact hfire h now
    · exact h
  unfold countCycle
  simp only
  generalize (if timer a = 0 then fire now a else a) = dueA at hdue ⊢
  generalize (if timer b = 0 then fire now b else b) = dueB at hdue ⊢
  have hcounted := hset hdue (timer dueA - 1)
  rw [← htimer hdue, ← htimer hcounted]
  split
  · exact hfire hcounted (now + 1)
  · exact hcounted

theorem SameView.pulse_eq {p : PulseId} (h : SameView p.channel a b) : a.pulse p = b.pulse p := by
  obtain ⟨⟨hgenerator, -⟩, -⟩ := h
  cases p <;> exact hgenerator

theorem SameView.setPulse {p : PulseId} (h : SameView p.channel a b) (g : Pulse) :
    SameView p.channel (a.setPulse p g) (b.setPulse p g) := by
  obtain ⟨⟨-, houtput⟩, hstore⟩ := h
  cases p <;> exact ⟨⟨rfl, houtput⟩, hstore⟩

theorem SameView.firePulse {p : PulseId} (h : SameView p.channel a b) (t : Time) :
    SameView p.channel (firePulse p t a) (firePulse p t b) := by
  simp only [Machine.firePulse, h.pulse_eq]
  exact (h.setLevel _ t).setPulse _

theorem SameView.firePulseReload {p : PulseId} (h : SameView p.channel a b) (t : Time) :
    SameView p.channel (firePulseReload p t a) (firePulseReload p t b) := by
  simp only [Machine.firePulseReload, (h.firePulse t).pulse_eq]
  exact (h.firePulse t).setPulse _

theorem SameView.pulseCycle {p : PulseId} (h : SameView p.channel a b) (now : Time) :
    SameView p.channel (pulseCycle p now a) (pulseCycle p now b) := by
  simp only [Machine.pulseCycle, h.pulse_eq]
  split
  · exact h
  · refine countCycle_rel (SameView p.channel) ?_ ?_ SameView.firePulseReload now h
    · exact fun h => congrArg Pulse.timer h.pulse_eq
    · intro a b h k
      simp only [h.pulse_eq]
      exact h.setPulse _

theorem SameView.tri_eq (h : SameView .tri a b) : a.tri = b.tri := by
  obtain ⟨⟨hgenerator, -⟩, -⟩ := h
  exact hgenerator

theorem SameView.setTri (h : SameView .tri a b) (g : Triangle) :
    SameView .tri { a with tri := g } { b with tri := g } := by
  obtain ⟨⟨-, houtput⟩, hstore⟩ := h
  exact ⟨⟨rfl, houtput⟩, hstore⟩

theorem SameView.fireTri (h : SameView .tri a b) (t : Time) : SameView .tri (fireTri t a) (fireTri t b) := by
  simp only [Machine.fireTri, h.tri_eq]
  exact (h.setLevel _ t).setTri _

theorem SameView.fireTriReload (h : SameView .tri a b) (t : Time) :
    SameView .tri (fireTriReload t a) (fireTriReload t b) := by
  simp only [Machine.fireTriReload, (h.fireTri t).tri_eq]
  exact (h.fireTri t).setTri _

theorem SameView.triUltrasonic (h : SameView .tri a b) (now : Time) :
    SameView .tri (triUltrasonic now a) (triUltrasonic now b) := by
  simp only [Machine.triUltrasonic, h.tri_eq]
  exact (h.setLevel _ (now + 1)).setTri _

theorem SameView.triCycle (h : SameView .tri a b) (now : Time) : SameView .tri (triCycle now a) (triCycle now b) := by
  simp only [Machine.triCycle, h.tri_eq]
  split
  · exact h
  · split
    · exact h.triUltrasonic now
    · refine countCycle_rel (SameView .tri) ?_ ?_ SameView.fireTriReload now h
      · exact fun h => congrArg Triangle.timer h.tri_eq
      · intro a b h k
        simp only [h.tri_eq]
        exact h.setTri _

theorem SameView.noi_eq (h : SameView .noi a b) : a.noi = b.noi := by
  obtain ⟨⟨hgenerator, -⟩, -⟩ := h
  exact hgenerator

theorem SameView.setNoise (h : SameView .noi a b) (g : Noise) :
    SameView .noi { a with noi := g } { b with noi := g } := by
  obtain ⟨⟨-, houtput⟩, hstore⟩ := h
  exact ⟨⟨rfl, houtput⟩, hstore⟩

theorem SameView.fireNoise (h : SameView .noi a b) (t : Time) : SameView .noi (fireNoise t a) (fireNoise t b) := by
  simp only [Machine.fireNoise, h.noi_eq]
  exact (h.setLevel _ t).setNoise _

theorem SameView.fireNoiseReload (h : SameView .noi a b) (t : Time) :
    SameView .noi (fireNoiseReload t a) (fireNoiseReload t b) := by
  simp only [Machine.fireNoiseReload, (h.fireNoise t).noi_eq]
  exact (h.fireNoise t).setNoise _

theorem SameView.noiseCycle (h : SameView .noi a b) (now : Time) :
    SameView .noi (noiseCycle now a) (noiseCycle now b) := by
  refine countCycle_rel (SameView .noi) ?_ ?_ SameView.fireNoiseReload now h
  · exact fun h => congrArg Noise.timer h.noi_eq
  · intro a b h k
    simp only [h.noi_eq]
    exact h.setNoise _

theorem SameView.dmc_eq (h : SameView .dmc a b) : a.dmc = b.dmc := by
  obtain ⟨⟨⟨hdmc, -⟩, -⟩, -⟩ := h
  exact hdmc

theorem SameView.setDmc (h : SameView .dmc a b) (g : Dmc) :
    SameView .dmc { a with dmc := g } { b with dmc := g } := by
  obtain ⟨⟨⟨-, hfetched⟩, houtput⟩, hstore⟩ := h
  exact ⟨⟨⟨rfl, hfetched⟩, houtput⟩, hstore⟩

/-- A fetch gets its byte by the store and the number of free bytes drawn, and both are in the sample unit's view. -/
theorem SameView.sampleByte_eq (h : SameView .dmc a b) (addr : Addr) : sampleByte a addr = sampleByte b addr := by
  obtain ⟨⟨⟨-, -, hdraws⟩, -⟩, hstore⟩ := h
  rw [sampleByte, hdraws, hstore, sampleByte]

theorem SameView.noteFetch (h : SameView .dmc a b) (t : Time) (addr : Addr) :
    SameView .dmc (noteFetch t addr a) (noteFetch t addr b) := by
  obtain ⟨⟨⟨hdmc, hfetches, hdraws⟩, houtput⟩, hstore⟩ := h
  refine ⟨⟨⟨hdmc, ?_, ?_⟩, houtput⟩, hstore⟩
  · simp only [State.noteFetch_fetches, hfetches]
  · simp only [Machine.noteFetch, hdraws, hstore]

theorem SameView.dmcReader (h : SameView .dmc a b) (t : Time) : SameView .dmc (dmcReader t a) (dmcReader t b) := by
  simp only [Machine.dmcReader, h.dmc_eq, h.sampleByte_eq]
  split
  · exact (h.noteFetch t _).setDmc _
  · exact h

theorem SameView.dmcOutput (h : SameView .dmc a b) (t : Time) : SameView .dmc (dmcOutput t a) (dmcOutput t b) := by
  simp only [Machine.dmcOutput, h.dmc_eq]
  exact (h.setDmc _).setLevel _ t

theorem SameView.fireDmc (h : SameView .dmc a b) (t : Time) : SameView .dmc (fireDmc t a) (fireDmc t b) :=
  (h.dmcReader t).dmcOutput t

theorem SameView.fireDmcReload (h : SameView .dmc a b) (t : Time) :
    SameView .dmc (fireDmcReload t a) (fireDmcReload t b) := by
  simp only [Machine.fireDmcReload, (h.fireDmc t).dmc_eq]
  exact (h.fireDmc t).setDmc _

theorem SameView.dmcCycle (h : SameView .dmc a b) (now : Time) : SameView .dmc (dmcCycle now a) (dmcCycle now b) := by
  refine countCycle_rel (SameView .dmc) ?_ ?_ SameView.fireDmcReload now h
  · exact fun h => congrArg Dmc.timer h.dmc_eq
  · intro a b h k
    simp only [h.dmc_eq]
    exact h.setDmc _

/-- R155: what a generator does in a master cycle depends on its view alone. -/
theorem SameView.genCycle : ∀ {c : Channel}, SameView c a b → ∀ now, SameView c (genCycle c now a) (genCycle c now b)
  | .p1, h, now => SameView.pulseCycle (p := .p1) h now
  | .p2, h, now => SameView.pulseCycle (p := .p2) h now
  | .tri, h, now => h.triCycle now
  | .noi, h, now => h.noiseCycle now
  | .dmc, h, now => h.dmcCycle now

end views

/-! ### `process`: `k` cycles of one generator (R150) -/

theorem SameView.process {c : Channel} {a b : State} (h : SameView c a b) (k : Nat) (now : Time) :
    SameView c (process c k now a) (process c k now b) := by
  induction k generalizing a b now with
  | zero => exact h
  | succ k ih => exact ih (h.genCycle now) (now + 1)

theorem process_agreeOutside (c : Channel) (k : Nat) (now : Time) (s : State) :
    AgreeOutside c s (process c k now s) := by
  induction k generalizing now s with
  | zero => exact .refl c s
  | succ k ih => exact (genCycle_agreeOutside c now s).trans (ih (now + 1) _)

@[simp] theorem process_store (c : Channel) (k : Nat) (now : Time) (s : State) : (process c k now s).store = s.store := by
  obtain ⟨-, hrest⟩ := process_agreeOutside c k now s
  exact hrest.store_eq.symm

/-- A run of one generator can be cut anywhere (R150). -/
theorem process_add (c : Channel) (j k : Nat) (now : Time) (s : State) :
    process c (j + k) now s = process c k (now + BitVec.ofNat timeBits j) (process c j now s) := by
  induction j generalizing now s with
  | zero => simp [process]
  | succ j ih =>
    have htime : now + 1 + BitVec.ofNat timeBits j = now + BitVec.ofNat timeBits (j + 1) := by
      rw [BitVec.add_assoc, BitVec.ofNat_add, BitVec.add_comm (BitVec.ofNat _ j)]
      rfl
    calc process c (j + 1 + k) now s = process c (j + k) (now + 1) (genCycle c now s) := by rw [Nat.succ_add, process]
      _ = process c k (now + 1 + BitVec.ofNat timeBits j) (process c j (now + 1) (genCycle c now s)) := ih _ _
      _ = process c k (now + BitVec.ofNat timeBits (j + 1)) (process c (j + 1) now s) := by rw [htime, process]

/-! ### Several generators processed over the same cycles, in any order and in any slices (R150) -/

/-- State `t` is `s` after exactly the generators of `group` have processed `k` cycles from frame time `now` on. -/
structure Processed (group : List Channel) (k : Nat) (now : Time) (s t : State) : Prop where
  inside  : ∀ c ∈ group, AgreeOn c t (process c k now s)
  outside : ∀ c ∉ group, AgreeOn c t s
  rest    : AgreeOnRest t s

theorem Processed.single (c : Channel) (k : Nat) (now : Time) (s : State) :
    Processed [c] k now s (process c k now s) := by
  obtain ⟨hothers, hrest⟩ := process_agreeOutside c k now s
  refine ⟨fun d hd => ?_, fun d hd => (hothers d (List.ne_of_not_mem_cons hd)).symm, hrest.symm⟩
  rw [List.mem_singleton.mp hd]
  exact .refl _ _

/-- Generators that process the same cycles one after the other do not see each other. -/
theorem Processed.append_group {g g' : List Channel} {k : Nat} {now : Time} {s t u : State} (hdisjoint : g.Disjoint g')
    (h : Processed g k now s t) (h' : Processed g' k now t u) : Processed (g ++ g') k now s u where
  inside c hc := by
    obtain hc | hc := List.mem_append.mp hc
    · exact (h'.outside c (hdisjoint hc)).trans (h.inside c hc)
    · have hview : SameView c t s := ⟨h.outside c fun hc' => hdisjoint hc' hc, h.rest.store_eq⟩
      exact (h'.inside c hc).trans (hview.process k now).agree
  outside c hc := by
    obtain ⟨hg, hg'⟩ := not_or.mp (mt List.mem_append.mpr hc)
    exact (h'.outside c hg').trans (h.outside c hg)
  rest := h'.rest.trans h.rest

/-- One slice after another. -/
theorem Processed.add_cycles {group : List Channel} {j k : Nat} {now : Time} {s t u : State}
    (h : Processed group j now s t) (h' : Processed group k (now + BitVec.ofNat timeBits j) t u) :
    Processed group (j + k) now s u where
  inside c hc := by
    have hview : SameView c t (process c j now s) := ⟨h.inside c hc, h.rest.store_eq.trans (process_store ..).symm⟩
    rw [process_add]
    exact (h'.inside c hc).trans (hview.process k _).agree
  outside c hc := (h'.outside c hc).trans (h.outside c hc)
  rest := h'.rest.trans h.rest

theorem Processed.no_cycles (group : List Channel) (now : Time) (s : State) : Processed group 0 now s s :=
  ⟨fun c _ => .refl c s, fun c _ => .refl c s, .refl s⟩

theorem processGroup_processed {group : List Channel} (hnodup : group.Nodup) (k : Nat) (now : Time) (s : State) :
    Processed group k now s (processGroup group k now s) := by
  induction group generalizing s with
  | nil => exact ⟨nofun, fun c _ => .refl c s, .refl s⟩
  | cons c group ih =>
    obtain ⟨hc, hnodup⟩ := List.nodup_cons.mp hnodup
    exact (Processed.single c k now s).append_group (List.disjoint_singleton.mpr hc).symm (ih hnodup _)

/-- R150: a slice is at least one cycle long, and no longer than what is left. -/
theorem sliceLength_bounds (group : List Channel) {t : Nat} (ht : t ≠ 0) (s : State) :
    1 ≤ sliceLength group t s ∧ sliceLength group t s ≤ t := by
  have hmin : chip.minSlice = 7 := rfl
  unfold sliceLength
  omega

/-- R150: however `run_domain` slices, each generator of the group processes all `t` cycles. -/
theorem runDomain_processed {group : List Channel} (hnodup : group.Nodup) (fuel t : Nat) (hfuel : t ≤ fuel)
    (now : Time) (s : State) : Processed group t now s (runDomain group fuel t now s) := by
  induction fuel generalizing t now s with
  | zero =>
    obtain rfl := Nat.le_zero.mp hfuel
    exact .no_cycles group now s
  | succ fuel ih =>
    unfold runDomain
    split
    next ht =>
      subst ht
      exact .no_cycles group now s
    next ht =>
      obtain ⟨hpos, hle⟩ := sliceLength_bounds group ht s
      have hslices := (processGroup_processed hnodup (sliceLength group t s) now s).add_cycles
        (ih (t - sliceLength group t s) (by omega) _ _)
      rwa [Nat.add_sub_cancel' hle] at hslices

/-- The five generators in the order of a cycle (R149): both timing domains of the schedule (R150). -/
def allChannels : List Channel := domainPulses ++ domainRest

theorem mem_allChannels (c : Channel) : c ∈ allChannels := by cases c <;> decide

/-- The generator steps of a cycle (R149) are one cycle of every generator, in the same order. -/
theorem generatorsCycle_eq_processGroup (now : Time) (s : State) :
    generatorsCycle now s = processGroup allChannels 1 now s := by
  simp only [generatorsCycle, processGroup, allChannels, domainPulses, domainRest, process, List.cons_append,
    List.nil_append, List.foldl_cons, List.foldl_nil]

theorem generatorsCycle_processed (now : Time) (s : State) : Processed allChannels 1 now s (generatorsCycle now s) := by
  rw [generatorsCycle_eq_processGroup]
  exact processGroup_processed (by decide) 1 now s

/-- Both timing domains, one after the other (R150). -/
theorem runDomains_processed (t : Nat) (now : Time) (s : State) :
    Processed allChannels t now s (runDomain domainRest t t now (runDomain domainPulses t t now s)) := by
  have hdisjoint : domainPulses.Disjoint domainRest := by intro c; cases c <;> decide
  exact (runDomain_processed (by decide) t t le_rfl now s).append_group hdisjoint
    (runDomain_processed (by decide) t t le_rfl now _)

/-! ### States that differ in the interleaving of events alone (R151) -/

/-- Two states agree on everything but the interleaving of the level events of different channels. -/
structure SameUpToInterleaving (a b : State) : Prop where
  generators : ∀ c, AgreeOn c a b
  rest       : AgreeOnRest a b

theorem SameUpToInterleaving.refl (a : State) : SameUpToInterleaving a a := ⟨fun c => .refl c a, .refl a⟩

theorem SameUpToInterleaving.trans {a b c : State} (h : SameUpToInterleaving a b) (h' : SameUpToInterleaving b c) :
    SameUpToInterleaving a c :=
  ⟨fun d => (h.generators d).trans (h'.generators d), h.rest.trans h'.rest⟩

theorem Machine.Levels.eq_of_get_eq {l l' : Levels} (h : ∀ c, l.get c = l'.get c) : l = l' := by
  obtain ⟨p1, p2, tri, noi, dmc⟩ := l
  obtain ⟨p1', p2', tri', noi', dmc'⟩ := l'
  congr 1
  · exact BitVec.eq_of_toNat_eq (h .p1)
  · exact BitVec.eq_of_toNat_eq (h .p2)
  · exact BitVec.eq_of_toNat_eq (h .tri)
  · exact BitVec.eq_of_toNat_eq (h .noi)
  · exact BitVec.eq_of_toNat_eq (h .dmc)

/-- Such states are equal but for the event list. -/
theorem SameUpToInterleaving.eq_withEvents {a b : State} (h : SameUpToInterleaving a b) :
    b = { a with events := b.events } := by
  obtain ⟨hp1, -⟩ := h.generators .p1
  obtain ⟨hp2, -⟩ := h.generators .p2
  obtain ⟨htri, -⟩ := h.generators .tri
  obtain ⟨hnoi, -⟩ := h.generators .noi
  obtain ⟨⟨hdmc, hfetches, hdraws⟩, -⟩ := h.generators .dmc
  have hlevels : a.levels = b.levels := by
    refine Levels.eq_of_get_eq fun c => ?_
    obtain ⟨-, hlevel, -⟩ := h.generators c
    exact hlevel
  obtain ⟨hindex, hmode, hdiv, hdomain, htime, hstore, hpending, hresponses⟩ := h.rest
  cases a
  cases b
  simp_all [SameGenerator]

/-- The converse, for an event list with the same events of each channel. -/
theorem SameUpToInterleaving.withEvents {a : State} {e : List LevelEvent}
    (h : ∀ c, eventsOf c a.events = eventsOf c e) : SameUpToInterleaving a { a with events := e } where
  generators c := by
    obtain ⟨hgenerator, hlevel, -⟩ := AgreeOn.refl c a
    exact ⟨hgenerator, hlevel, h c⟩
  rest := .refl a

/-! ### Each part of a cycle respects that relation -/

section congruence
variable {a b : State}

theorem SameUpToInterleaving.genCycle (h : SameUpToInterleaving a b) (c : Channel) (now : Time) :
    SameUpToInterleaving (genCycle c now a) (genCycle c now b) := by
  obtain ⟨hothersA, hrestA⟩ := genCycle_agreeOutside c now a
  obtain ⟨hothersB, hrestB⟩ := genCycle_agreeOutside c now b
  refine ⟨fun d => ?_, hrestA.symm.trans (h.rest.trans hrestB)⟩
  by_cases hd : d = c
  · subst hd
    exact (SameView.genCycle ⟨h.generators d, h.rest.store_eq⟩ now).agree
  · exact (hothersA d hd).symm.trans ((h.generators d).trans (hothersB d hd))

theorem SameUpToInterleaving.generatorsCycle (h : SameUpToInterleaving a b) (now : Time) :
    SameUpToInterleaving (generatorsCycle now a) (generatorsCycle now b) :=
  ((((h.genCycle .p1 now).genCycle .p2 now).genCycle .tri now).genCycle .noi now).genCycle .dmc now

theorem runTicks_withEvents (f sl r : Bool) (s : State) (e : List LevelEvent) :
    runTicks f sl r { s with events := e } = { runTicks f sl r s with events := e } := by
  cases f <;> cases sl <;> cases r <;> rfl

/-- No tick reads or writes the event list (R174 to R176). -/
theorem seqStep_withEvents (s : State) (e : List LevelEvent) :
    seqStep { s with events := e } = { seqStep s with events := e } :=
  runTicks_withEvents _ _ _ { s with seqIndex := nextIndex s.seqMode s.seqIndex } e

@[simp] theorem seqStep_events (s : State) : (seqStep s).events = s.events := by simp [seqStep]

end congruence

/-! ### Time -/

/-- The clock of the block `k` cycles later, no sequencer step taken (R149, R172). -/
def elapse (k : Nat) (s : State) : State :=
  { s with frameTime := s.frameTime + BitVec.ofNat timeBits k, seqDiv := s.seqDiv - BitVec.ofNat 16 k }

/-- The sequencer step that ends a cycle with a used-up divider (R149, R172). -/
def stepIfExpired (s : State) : State :=
  if s.seqDiv = 0 then seqStep { s with seqDiv := seqPeriod s.domain } else s

theorem clockSequencer_eq (s : State) :
    clockSequencer { s with frameTime := s.frameTime + 1 } = stepIfExpired (elapse 1 s) := rfl

theorem cycle_eq (s : State) : cycle s = stepIfExpired (elapse 1 (generatorsCycle s.frameTime s)) := by
  rw [cycle]
  exact clockSequencer_eq _

theorem sliceToBoundary_eq (t : Nat) (s : State) : sliceToBoundary t s =
    stepIfExpired (elapse t (runDomain domainRest t t s.frameTime (runDomain domainPulses t t s.frameTime s))) := rfl

theorem elapse_zero (s : State) : elapse 0 s = s := by simp [elapse]

theorem elapse_elapse (j k : Nat) (s : State) : elapse k (elapse j s) = elapse (j + k) s := by
  simp [elapse, BitVec.ofNat_add, BitVec.add_assoc, BitVec.sub_sub]

theorem AgreeOnRest.elapse {a b : State} (h : AgreeOnRest a b) (k : Nat) : AgreeOnRest (elapse k a) (elapse k b) := by
  simp_all [AgreeOnRest, Sys2Proof.elapse]

/-- The clock is no generator's. -/
theorem elapse_agreeOn (c : Channel) (k : Nat) (s : State) : AgreeOn c (elapse k s) s := AgreeOn.refl c s

theorem SameUpToInterleaving.elapse {a b : State} (h : SameUpToInterleaving a b) (k : Nat) :
    SameUpToInterleaving (elapse k a) (elapse k b) where
  generators c := (elapse_agreeOn c k a).trans ((h.generators c).trans (elapse_agreeOn c k b).symm)
  rest := h.rest.elapse k

theorem stepIfExpired_withEvents (s : State) (e : List LevelEvent) :
    stepIfExpired { s with events := e } = { stepIfExpired s with events := e } := by
  unfold stepIfExpired
  split
  · exact seqStep_withEvents { s with seqDiv := seqPeriod s.domain } e
  · rfl

@[simp] theorem stepIfExpired_events (s : State) : (stepIfExpired s).events = s.events := by
  unfold stepIfExpired
  split <;> simp

theorem SameUpToInterleaving.stepIfExpired {a b : State} (h : SameUpToInterleaving a b) :
    SameUpToInterleaving (stepIfExpired a) (stepIfExpired b) := by
  have hstep := stepIfExpired_withEvents a b.events
  rw [← h.eq_withEvents] at hstep
  rw [hstep]
  refine .withEvents fun c => ?_
  obtain ⟨-, -, hevents⟩ := h.generators c
  rw [stepIfExpired_events, hevents]

theorem SameUpToInterleaving.cycle {a b : State} (h : SameUpToInterleaving a b) :
    SameUpToInterleaving (cycle a) (cycle b) := by
  rw [cycle_eq, cycle_eq, h.rest.frameTime_eq]
  exact ((h.generatorsCycle _).elapse 1).stepIfExpired

theorem SameUpToInterleaving.advance {a b : State} (h : SameUpToInterleaving a b) (n : Nat) :
    SameUpToInterleaving (advance n a) (advance n b) := by
  induction n generalizing a b with
  | zero => exact h
  | succ n ih => exact ih h.cycle

theorem advance_add (m n : Nat) (s : State) : advance (m + n) s = advance n (advance m s) := by
  induction m generalizing s with
  | zero => rw [Nat.zero_add, advance_zero]
  | succ m ih => rw [Nat.succ_add, advance_succ, advance_succ, ih]

/-! ### The cycles up to a sequencer step -/

/-- State `t` is `s` after `k` cycles of every generator and of the clock, no sequencer step taken. -/
structure Elapsed (k : Nat) (s t : State) : Prop where
  generators : ∀ c, AgreeOn c t (process c k s.frameTime s)
  rest       : AgreeOnRest t (elapse k s)

/-- What the generators did and the time that passed fix the state, up to the interleaving of events. -/
theorem Elapsed.unique {k : Nat} {s t u : State} (ht : Elapsed k s t) (hu : Elapsed k s u) :
    SameUpToInterleaving t u :=
  ⟨fun c => (ht.generators c).trans (hu.generators c).symm, ht.rest.trans hu.rest.symm⟩

theorem Processed.elapsed {k : Nat} {s t : State} (h : Processed allChannels k s.frameTime s t) :
    Elapsed k s (elapse k t) :=
  ⟨fun c => (elapse_agreeOn c k t).trans (h.inside c (mem_allChannels c)), h.rest.elapse k⟩

/-- One more cycle, before the sequencer looks at its divider. -/
theorem Elapsed.add_cycle {k : Nat} {s t : State} (h : Elapsed k s t) :
    Elapsed (k + 1) s (elapse 1 (generatorsCycle t.frameTime t)) where
  generators c := by
    have hview : SameView c t (process c k s.frameTime s) :=
      ⟨h.generators c, h.rest.store_eq.trans (process_store c k s.frameTime s).symm⟩
    have htime : t.frameTime = s.frameTime + BitVec.ofNat timeBits k := h.rest.frameTime_eq
    have hcycle := (generatorsCycle_processed t.frameTime t).inside c (mem_allChannels c)
    rw [process_add, ← htime]
    exact (elapse_agreeOn c 1 _).trans (hcycle.trans (hview.process 1 t.frameTime).agree)
  rest := by
    rw [← elapse_elapse]
    exact ((generatorsCycle_processed _ t).rest.trans h.rest).elapse 1

/-- While the divider runs no cycle ends in a sequencer step (R172). -/
theorem advance_elapsed (k : Nat) (s : State) (h : k < s.seqDiv.toNat) : Elapsed k s (advance k s) := by
  induction k with
  | zero => exact ⟨fun c => .refl c s, by rw [elapse_zero]; exact .refl s⟩
  | succ k ih =>
    have hnext := (ih (by omega)).add_cycle
    have hruns : (elapse (k + 1) s).seqDiv ≠ 0 := by
      have := s.seqDiv.isLt
      unfold elapse
      bv_omega
    rw [← hnext.rest.seqDiv_eq] at hruns
    rw [advance_add, advance_succ, advance_zero, cycle_eq, stepIfExpired, if_neg hruns]
    exact hnext

/-- One pass of the outer loop of R150 is ADVANCE over the same cycles. -/
theorem advance_sameUpToInterleaving_sliceToBoundary {t : Nat} {s : State} (hpos : t ≠ 0) (hle : t ≤ s.seqDiv.toNat) :
    SameUpToInterleaving (advance t s) (sliceToBoundary t s) := by
  obtain ⟨k, rfl⟩ := Nat.exists_eq_succ_of_ne_zero hpos
  have hcycles := (advance_elapsed k s hle).add_cycle
  have hslices := (runDomains_processed (k + 1) s.frameTime s).elapsed
  rw [Nat.succ_eq_add_one, advance_add, advance_succ, advance_zero, cycle_eq, sliceToBoundary_eq]
  exact (hcycles.unique hslices).stepIfExpired

theorem seqStep_seqDiv (s : State) : (seqStep s).seqDiv = s.seqDiv := by simp [seqStep]

theorem stepIfExpired_seqDiv_ne_zero (s : State) : (stepIfExpired s).seqDiv.toNat ≠ 0 := by
  unfold stepIfExpired
  split
  next =>
    rw [seqStep_seqDiv]
    exact Nat.ne_of_gt (seqPeriod_bounds s.domain).1
  next h => exact fun h' => h (BitVec.eq_of_toNat_eq h')

/-- The passes of R150 chain: each is ADVANCE over its cycles, and leaves the divider running. -/
theorem advance_sameUpToInterleaving_advanceSlicedFuel (fuel n : Nat) (hfuel : n ≤ fuel) (s : State)
    (hruns : s.seqDiv.toNat ≠ 0) : SameUpToInterleaving (advance n s) (advanceSlicedFuel fuel n s) := by
  induction fuel generalizing n s with
  | zero =>
    obtain rfl := Nat.le_zero.mp hfuel
    exact .refl s
  | succ fuel ih =>
    unfold advanceSlicedFuel
    split
    next hn =>
      subst hn
      exact .refl s
    next hn =>
      simp only
      have hle : min n s.seqDiv.toNat ≤ n := Nat.min_le_left ..
      have hdiv : min n s.seqDiv.toNat ≤ s.seqDiv.toNat := Nat.min_le_right ..
      have hpos : min n s.seqDiv.toNat ≠ 0 := by omega
      generalize min n s.seqDiv.toNat = t at hle hdiv hpos ⊢
      have hpass := advance_sameUpToInterleaving_sliceToBoundary hpos hdiv
      have hlater := ih (n - t) (by omega) (sliceToBoundary t s) (sliceToBoundary_eq t s ▸ stepIfExpired_seqDiv_ne_zero _)
      rw [← Nat.add_sub_cancel' hle, advance_add, Nat.add_sub_cancel' hle]
      exact (hpass.advance (n - t)).trans hlater

/-- Settles O42: the passes of the schedule are ADVANCE up to the interleaving of events, by induction on their number;
a split of ADVANCE is `advance_add`. -/
theorem slicingNotObservable : Obligations.SlicingNotObservable := by
  intro n s hruns
  obtain ⟨hgenerators, hrest⟩ := advance_sameUpToInterleaving_advanceSlicedFuel n.toNat n.toNat le_rfl s hruns
  refine ⟨⟨advance n.toNat s, rfl, hgenerators, hrest⟩, fun a b hsum => ?_⟩
  refine ⟨advance a.toNat s, advance b.toNat (advance a.toNat s), rfl, rfl, ?_⟩
  rw [← advance_add, hsum]
  rfl

end Sys2Proof
end

/-! ## Writes that are dropped and reads that are not mapped (spec/40_host_commands.md R142, R145, R147) -/

section
namespace Sys2Proof
open Machine

/-! ### The words of formats W and R as numbers (R101, R102) -/

/-- Bits 31:24, 23:8 and 7:0. -/
theorem toNat_head_addr_data (head : BitVec 8) (a : Addr) (d : Byte) :
    (head ++ a ++ d : BitVec (8 + 16 + 8)).toNat = head.toNat * 2 ^ 24 + a.toNat * 2 ^ 8 + d.toNat := by
  have ha := Addr.toNat_lt a
  rw [BitVec.toNat_append, BitVec.toNat_append, ← Nat.shiftLeft_add_eq_or_of_lt d.isLt,
    ← Nat.shiftLeft_add_eq_or_of_lt ha, Nat.shiftLeft_eq, Nat.shiftLeft_eq]
  omega

theorem ofNat_eq_writeWord (a : Addr) (d : Byte) :
    BitVec.ofNat 32 (0x10000000 + a.toNat * 2 ^ 8 + d.toNat) = writeWord a d := by
  have hvalue : (writeWord a d).toNat = 0x10000000 + a.toNat * 2 ^ 8 + d.toNat :=
    toNat_head_addr_data (0x1#4 ++ 0#4) a d
  rw [← hvalue, BitVec.ofNat_toNat, BitVec.setWidth_eq]

theorem ofNat_eq_readWord (a : Addr) : BitVec.ofNat 32 (0x20000000 + a.toNat * 2 ^ 8) = readWord a := by
  have hvalue : (readWord a).toNat = 0x20000000 + a.toNat * 2 ^ 8 := toNat_head_addr_data (0x2#4 ++ 0#4) a 0#8
  rw [← hvalue, BitVec.ofNat_toNat, BitVec.setWidth_eq]

theorem decode_writeWord (a : Addr) (d : Byte) : decode (writeWord a d) = .ok (writeCommand a d) := by
  simp [decode]

theorem decode_readWord (a : Addr) : decode (readWord a) = .ok (readCommand a) := by
  simp [decode]

/-! ### Which writes are dropped -/

/-- A WRITE that selects no register is dropped (R145). -/
theorem exec_unassignedWrite (off : BitVec 5) (d : Byte) (s : State) : exec (unassignedWrite off d) s = .next s := by
  unfold unassignedWrite
  split <;> rfl

theorem exec_wrOut (a : Addr) (d : Byte) (s : State) : exec (.wrOut a d) s = .next s := rfl

/-- The unassigned offsets are neither special (R142) nor in a generator's range (R144). -/
theorem windowWrite_of_unassigned {off : BitVec 5} (h : off.toNat = 0x14 ∨ off.toNat = 0x16 ∨ 0x18 ≤ off.toNat)
    (d : Byte) : windowWrite off d = unassignedWrite off d := by
  have htests : off ≠ chip.offStatus ∧ off ≠ chip.offMode ∧ off &&& 0x1C ≠ 0x00 ∧ off &&& 0x1C ≠ 0x04 ∧
      off &&& 0x1C ≠ 0x08 ∧ off &&& 0x1C ≠ 0x0C ∧ off &&& 0x1C ≠ 0x10 := by
    revert off
    decide
  obtain ⟨hstatus, hmode, hp1, hp2, htri, hnoi, hdmc⟩ := htests
  rw [windowWrite, if_neg hstatus, if_neg hmode, if_neg hp1, if_neg hp2, if_neg htri, if_neg hnoi, if_neg hdmc]

/-- R71: an address of the window is the base plus its offset. -/
theorem exists_windowAddr_of_inWindow {a : Addr} (h : inWindow a = true) :
    ∃ off, a = windowAddr off ∧ off.toNat = a.toNat - 0x4000 := by
  obtain ⟨hlo, hhi⟩ := (inWindow_iff a).mp h
  have hoff : (BitVec.ofNat 5 (a.toNat - 0x4000)).toNat = a.toNat - 0x4000 := by
    rw [BitVec.toNat_ofNat]
    omega
  refine ⟨_, BitVec.eq_of_toNat_eq ?_, hoff⟩
  have hbase : chip.windowBase.toNat = 0x4000 := rfl
  rw [windowAddr, BitVec.toNat_add, BitVec.toNat_setWidth, hoff, hbase]
  simp only [addrBits]
  omega

theorem exec_writeCommand_of_dropped {a : Addr} (h : a.toNat < 0x4000 ∨ 0x401F < a.toNat ∨ a.toNat = 0x4014 ∨
    a.toNat = 0x4016 ∨ 0x4018 ≤ a.toNat) (d : Byte) (s : State) : exec (writeCommand a d) s = .next s := by
  by_cases hwindow : inWindow a = true
  · obtain ⟨hlo, hhi⟩ := (inWindow_iff a).mp hwindow
    obtain ⟨off, rfl, hoff⟩ := exists_windowAddr_of_inWindow hwindow
    rw [writeCommand_windowAddr, windowWrite_of_unassigned (by omega), exec_unassignedWrite]
  · rw [writeCommand, if_neg hwindow, exec_wrOut]

/-- Settles O9: the word is format W, and the register decoder routes every such address to a command that is dropped. -/
theorem unassignedAndOutsideWritesDropped : Obligations.UnassignedAndOutsideWritesDropped := by
  intro addr data s rest haddr hpending
  rw [ofNat_eq_writeWord] at hpending
  rw [stepRunsDecodedCommand s _ rest _ hpending (decode_writeWord addr data)]
  exact exec_writeCommand_of_dropped haddr data _

/-- Settles O10: each of these meanings answers the state it is given (R145, R232, R252). -/
theorem ignoredWritesChangeNothing : Obligations.IgnoredWritesChangeNothing := by
  intro a d s
  exact ⟨rfl, rfl, exec_unassignedWrite 0x14 d s, exec_unassignedWrite 0x16 d s, exec_unassignedWrite 0x18 d s,
    exec_unassignedWrite 0x19 d s, exec_unassignedWrite 0x1A d s, exec_unassignedWrite 0x1B d s,
    exec_unassignedWrite 0x1C d s, exec_unassignedWrite 0x1D d s, exec_unassignedWrite 0x1E d s,
    exec_unassignedWrite 0x1F d s, exec_wrOut a d s⟩

/-! ### Reads -/

/-- R147: a READ of an address that is not mapped answers 0. -/
theorem exec_rdUnmapped (a : Addr) (s : State) : exec (.rdUnmapped a) s = .next (s.respond (.read 0 false)) := rfl

/-- Only STATUS, at 0x4015, is mapped (R146, R147). -/
theorem readCommand_of_ne_status {a : Addr} (h : a.toNat ≠ 0x4015) : readCommand a = .rdUnmapped a := by
  refine if_neg fun hstatus => h ?_
  rw [hstatus]
  rfl

/-- Settles O12: the word is format R, and of every address but STATUS the read decoder makes `rdUnmapped`. -/
theorem otherReadsAnswerUnmapped : Obligations.OtherReadsAnswerUnmapped := by
  intro addr s
  refine ⟨exec_rdUnmapped addr s, fun rest haddr hpending => ?_⟩
  rw [ofNat_eq_readWord] at hpending
  rw [stepRunsDecodedCommand s _ rest _ hpending (decode_readWord addr), readCommand_of_ne_status haddr]
  exact exec_rdUnmapped addr _

end Sys2Proof
end

/-! ## STATUS (spec/40_host_commands.md R143, R146) -/

section
namespace Sys2Proof.Machine

/-! ### The byte a STATUS read answers -/

theorem ne_zero_iff_toNat_pos {n : Nat} (x : BitVec n) : x ≠ 0 ↔ 0 < x.toNat := by
  rw [ne_eq, ← BitVec.toNat_inj, Nat.pos_iff_ne_zero]
  simp

/-- R124: `I 0 0 D N T 2 1` as a number. -/
theorem toNat_statusBits (i d n t p2 p1 : Bool) :
    (BitVec.ofBool i ++ 0#2 ++ BitVec.ofBool d ++ BitVec.ofBool n ++ BitVec.ofBool t ++ BitVec.ofBool p2
      ++ BitVec.ofBool p1).toNat
      = p1.toNat + 2 * p2.toNat + 4 * t.toNat + 8 * n.toNat + 16 * d.toNat + 128 * i.toNat := by
  revert i d n t p2 p1
  decide

theorem exec_rdStatus (s : State) : exec .rdStatus s = .next (s.respond (.read (statusByte s) true)) := rfl

/-- Settles O11: the response is `statusByte`, whose bits are the IRQ flag and the five active flags. -/
theorem statusReadAnswersFlags : Obligations.StatusReadAnswersFlags := by
  intro s
  refine ⟨statusByte s, exec_rdStatus s, ?_⟩
  simp only [← ne_zero_iff_toNat_pos]
  exact toNat_statusBits s.dmc.irq s.dmc.active s.noi.active s.tri.active s.p2.active s.p1.active

/-! ### The enable controls of a STATUS write -/

/-- R126: the first sample address as a number. -/
theorem toNat_sampleCursor (r : BitVec 8) : (sampleCursor r).toNat = 0x4000 + 64 * r.toNat := by
  revert r
  decide

/-- R126: the number of sample bytes as a number. -/
theorem toNat_sampleLength (r : BitVec 8) : (sampleLength r).toNat = 16 * r.toNat + 1 := by
  have := r.isLt
  unfold sampleLength
  bv_omega

section dmcEnable
variable (g : Dmc)

/-- R275: the control writes the cursor and the byte count, and clears the IRQ flag. -/
theorem Dmc.enable_eq (b : Bool) :
    g.enable b = { g with curAddr := (g.enable b).curAddr, bytes := (g.enable b).bytes, irq := false } := by
  unfold Dmc.enable Dmc.reload
  split
  · split <;> rfl
  · rfl

/-- R278: a start when no byte is left. -/
theorem Dmc.enable_true_of_done (h : g.bytes = 0) : g.enable true = { g.reload with irq := false } := by
  simp only [Dmc.enable, if_true, if_pos h]

/-- R275: no start while bytes are left. -/
theorem Dmc.enable_true_of_busy (h : g.bytes ≠ 0) : g.enable true = { g with irq := false } := by
  simp only [Dmc.enable, if_true, if_neg h]

/-- R275: a stop. -/
theorem Dmc.enable_false : g.enable false = { g with bytes := 0, irq := false } := rfl

end dmcEnable

/-- R143: one bit of the data to each enable control. -/
theorem exec_wrStatus (data : Byte) (s : State) : exec (.wrStatus data) s = .next { s with
    p1 := s.p1.enable (flagBit data 0), p2 := s.p2.enable (flagBit data 1), tri := s.tri.enable (flagBit data 2),
    noi := s.noi.enable (flagBit data 3), dmc := s.dmc.enable (flagBit data 4) } := rfl

/-- Settles O20: the controls of P1, P2, TRI and NOI write `ctrl` and `enabled` by their definition; the sample unit's
is taken apart by bit 4 and the bytes left. -/
theorem statusWriteFansOut : Obligations.StatusWriteFansOut := by
  intro data s
  refine ⟨flagBit data, (s.dmc.enable (flagBit data 4)).curAddr, (s.dmc.enable (flagBit data 4)).bytes,
    flagBit_eq_true_iff data, ?_, fun hbit hbytes => ?_, fun hbit hbytes => ?_, fun hbit => ?_⟩
  · rw [exec_wrStatus, ← Dmc.enable_eq]
    rfl
  · have hdone : s.dmc.bytes = 0 := BitVec.eq_of_toNat_eq hbytes
    rw [hbit, s.dmc.enable_true_of_done hdone]
    exact ⟨toNat_sampleCursor s.dmc.addrReg, toNat_sampleLength s.dmc.lenReg⟩
  · have hbusy : s.dmc.bytes ≠ 0 := fun h => hbytes (congrArg BitVec.toNat h)
    rw [hbit, s.dmc.enable_true_of_busy hbusy]
    exact ⟨rfl, rfl⟩
  · rw [hbit, s.dmc.enable_false]
    exact ⟨rfl, rfl⟩

end Sys2Proof.Machine
end

/-! ## ENDFRAME, SETCLK and GETPERIOD (spec/40_host_commands.md R152 to R154) -/

section
namespace Sys2Proof.Machine

/-- Settles O38: ENDFRAME and SETCLK are by definition the update of their one field. -/
theorem endFrameAndSetClock : Obligations.EndFrameAndSetClock :=
  fun _ _ => ⟨rfl, rfl⟩

/-- Settles O39: each query is one response, and no latch is wider than the 16 bits it is extended to. -/
theorem periodQueryAnswersLatch : Obligations.PeriodQueryAnswersLatch := by
  intro s
  exact ⟨getPeriod .p1 s, getPeriod .p2 s, getPeriod .tri s, getPeriod .noi s, getPeriod .dmc s,
    rfl, BitVec.toNat_setWidth_of_le (by decide), rfl, BitVec.toNat_setWidth_of_le (by decide),
    rfl, BitVec.toNat_setWidth_of_le (by decide), rfl, BitVec.toNat_setWidth_of_le (by decide),
    rfl, BitVec.toNat_setWidth_of_le (by decide)⟩

end Sys2Proof.Machine
end

/-! ## The frame sequencer (spec/41_frame_sequencer.md R170 to R178)

The cycles up to a sequencer step are known from `Elapsed`; here stands what the step itself does, what those cycles
leave of each generator, and that they do not depend on the divider. -/

section
namespace Sys2Proof
open Machine

theorem stepIfExpired_of_running {s : State} (h : s.seqDiv ≠ 0) : stepIfExpired s = s := if_neg h

theorem stepIfExpired_of_expired {s : State} (h : s.seqDiv = 0) :
    stepIfExpired s = seqStep { s with seqDiv := seqPeriod s.domain } := if_pos h

@[simp] theorem elapse_domain (k : Nat) (s : State) : (elapse k s).domain = s.domain := rfl

/-! ### The sequencer step (R173) -/

/-- The number of indices of a mode (R23). -/
def Machine.SeqMode.steps : SeqMode → Nat
  | .fourStep => 4
  | .fiveStep => 5

theorem Machine.SeqMode.steps_pos (m : SeqMode) : 0 < m.steps := by cases m <;> decide

theorem Machine.SeqMode.steps_eq_ite (m : SeqMode) : m.steps = if m = .fourStep then 4 else 5 := by cases m <;> rfl

theorem Machine.State.indexValid_iff (s : State) : s.IndexValid ↔ s.seqIndex.toNat < s.seqMode.steps := by
  unfold State.IndexValid
  cases s.seqMode <;> exact Nat.lt_succ_iff.symm

theorem toNat_nextIndex (m : SeqMode) (i : BitVec 3) : (nextIndex m i).toNat = (i.toNat + 1) % m.steps := by
  cases m <;> simp only [nextIndex, SeqMode.steps, BitVec.toNat_ofNat] <;> omega

theorem toNat_iterate_nextIndex {m : SeqMode} (k : Nat) {i : BitVec 3} (h : i.toNat < m.steps) :
    ((nextIndex m)^[k] i).toNat = (i.toNat + k) % m.steps := by
  induction k with
  | zero => exact (Nat.mod_eq_of_lt h).symm
  | succ k ih => rw [Function.iterate_succ_apply', toNat_nextIndex, ih, Nat.mod_add_mod, Nat.add_assoc]

@[simp] theorem seqStep_seqIndex (s : State) : (seqStep s).seqIndex = nextIndex s.seqMode s.seqIndex := by
  simp [seqStep]

@[simp] theorem seqStep_seqMode (s : State) : (seqStep s).seqMode = s.seqMode := by simp [seqStep]

@[simp] theorem seqStep_domain (s : State) : (seqStep s).domain = s.domain := by simp [seqStep]

/-- The step at a known mode and index: that row of the firing pattern. -/
theorem seqStep_of_mode_index {s : State} {m : SeqMode} {i : BitVec 3} (hmode : s.seqMode = m)
    (hindex : s.seqIndex.toNat = i.toNat) : seqStep s =
    runTicks (firesFast m (nextIndex m i)) (firesSlow m (nextIndex m i)) (firesReserved m (nextIndex m i))
      { s with seqIndex := nextIndex m i } := by
  rw [seqStep, hmode, BitVec.eq_of_toNat_eq hindex]

/-- Settles O26: the ticks are their definitions, and each mode and index selects one row of the pattern. -/
theorem sequencerFiringPattern : Obligations.SequencerFiringPattern := by
  intro s
  refine ⟨rfl, rfl, rfl, fun hmode => ?_, fun hmode => ?_⟩
  · have hrow (i : BitVec 3) := seqStep_of_mode_index (i := i) hmode
    exact ⟨hrow 0, hrow 1, hrow 2, hrow 3⟩
  · have hrow (i : BitVec 3) := seqStep_of_mode_index (i := i) hmode
    exact ⟨hrow 0, hrow 1, hrow 2, hrow 3, hrow 4⟩

/-! ### MODE writes (R171) -/

theorem exec_wrMode_of_clear {data : Byte} (h : flagBit data 7 = false) (s : State) :
    exec (.wrMode data) s = .next { s with seqIndex := 0, seqMode := .fourStep } :=
  if_neg (by simp [h])

theorem exec_wrMode_of_set {data : Byte} (h : flagBit data 7 = true) (s : State) :
    exec (.wrMode data) s = .next (runTicks true true true { s with seqIndex := 0, seqMode := .fiveStep }) :=
  if_pos h

/-- Settles O25: bit 7 selects the form, and the pass of the second is one fast tick and then one slow tick. -/
theorem modeWriteFiresOnePass : Obligations.ModeWriteFiresOnePass := by
  intro data s
  refine ⟨fun hclear => ?_, fun hset => ?_⟩
  · have hbit : flagBit data 7 = false := by
      rw [Bool.eq_false_iff, Ne, flagBit_seven_eq_true_iff]
      omega
    exact exec_wrMode_of_clear hbit s
  · exact exec_wrMode_of_set ((flagBit_seven_eq_true_iff data).mpr hset) s

/-! ### The index stays valid (R23, R177) -/

theorem seqStep_index_lt (s : State) : (seqStep s).seqIndex.toNat < (seqStep s).seqMode.steps := by
  rw [seqStep_seqIndex, seqStep_seqMode, toNat_nextIndex]
  exact Nat.mod_lt _ s.seqMode.steps_pos

theorem stepIfExpired_index_lt {s : State} (h : s.seqIndex.toNat < s.seqMode.steps) :
    (stepIfExpired s).seqIndex.toNat < (stepIfExpired s).seqMode.steps := by
  unfold stepIfExpired
  split
  · exact seqStep_index_lt _
  · exact h

theorem cycle_index_lt {s : State} (h : s.seqIndex.toNat < s.seqMode.steps) :
    (cycle s).seqIndex.toNat < (cycle s).seqMode.steps := by
  obtain ⟨hindex, hmode, -⟩ := generatorsCycle_agreeOnRest s.frameTime s
  rw [hindex, hmode] at h
  rw [cycle_eq]
  generalize generatorsCycle s.frameTime s = u at h
  exact stepIfExpired_index_lt (s := elapse 1 u) h

theorem Machine.State.IndexValid.advance (n : Nat) {s : State} (h : s.IndexValid) : (advance n s).IndexValid := by
  rw [State.indexValid_iff] at h ⊢
  exact advance_preserves (fun s => s.seqIndex.toNat < s.seqMode.steps) (fun _ => cycle_index_lt) n s h

theorem Machine.State.IndexValid.setLevel {s : State} (h : s.IndexValid) (ch : Channel) (v : Nat) (t : Time) :
    (setLevel ch v t s).IndexValid := by
  rwa [State.indexValid_iff, State.setLevel_seqIndex, State.setLevel_seqMode, ← State.indexValid_iff]

theorem execWrMode_indexValid {data : Byte} {s t : State} (hexec : execWrMode data s = .next t) : t.IndexValid := by
  unfold execWrMode at hexec
  split at hexec <;> cases hexec
  · rw [State.indexValid_iff, runTicks_seqIndex, runTicks_seqMode]
    exact SeqMode.steps_pos .fiveStep
  · exact Nat.zero_le 3

/-- Settles O27: ADVANCE keeps the index valid cycle by cycle, MODE and RESET set it to 0, and no other command touches
index or mode. -/
theorem sequencerIndexStaysBounded : Obligations.SequencerIndexStaysBounded := by
  intro i s t h hexec
  cases i with
  | adv n =>
    cases hexec
    exact h.advance n.toNat
  | wrMode d => exact execWrMode_indexValid hexec
  | rst =>
    cases hexec
    exact Nat.zero_le 3
  | wrDmcR1 d =>
    cases hexec
    exact State.IndexValid.setLevel (s := { s with dmc := s.dmc.write1 d }) h _ _ _
  | _ =>
    cases hexec
    exact h

/-! ### What the timers leave of a generator (R172)

A cycle without a sequencer step moves only the timer and the position of P1, P2, TRI and NOI: the fields with these two
erased are an invariant of the cycle. -/

/-- The pulse fields that no timer moves. -/
def Machine.Pulse.eraseTimer (g : Pulse) : Pulse := { g with timer := 0, dutyStep := 0 }

/-- The triangle fields that no timer moves. -/
def Machine.Triangle.eraseTimer (g : Triangle) : Triangle := { g with timer := 0, step := 0 }

/-- The noise fields that no timer moves. -/
def Machine.Noise.eraseTimer (g : Noise) : Noise := { g with timer := 0, lfsr := 0 }

theorem Machine.Pulse.eq_of_eraseTimer_eq {g g' : Pulse} (h : g'.eraseTimer = g.eraseTimer) :
    g' = { g with timer := g'.timer, dutyStep := g'.dutyStep } :=
  congrArg (fun e : Pulse => { e with timer := g'.timer, dutyStep := g'.dutyStep }) h

theorem Machine.Triangle.eq_of_eraseTimer_eq {g g' : Triangle} (h : g'.eraseTimer = g.eraseTimer) :
    g' = { g with timer := g'.timer, step := g'.step } :=
  congrArg (fun e : Triangle => { e with timer := g'.timer, step := g'.step }) h

theorem Machine.Noise.eq_of_eraseTimer_eq {g g' : Noise} (h : g'.eraseTimer = g.eraseTimer) :
    g' = { g with timer := g'.timer, lfsr := g'.lfsr } :=
  congrArg (fun e : Noise => { e with timer := g'.timer, lfsr := g'.lfsr }) h

/-- Whatever value both the timer update and the fire leave alone, a timer cycle leaves alone. -/
theorem countCycle_invariant {α : Type} (f : State → α) {n : Nat} {timer : State → BitVec n}
    {setTimer : State → BitVec n → State} {fire : Time → State → State} (hset : ∀ s k, f (setTimer s k) = f s)
    (hfire : ∀ t s, f (fire t s) = f s) (now : Time) (s : State) : f (countCycle timer setTimer fire now s) = f s :=
  countCycle_keeps (fun a b => f b = f a) (fun _ => rfl) (fun _ _ _ hab hbc => hbc.trans hab) hset hfire now s

theorem pulseCycle_eraseTimer (p : PulseId) (now : Time) (s : State) :
    ((pulseCycle p now s).pulse p).eraseTimer = (s.pulse p).eraseTimer := by
  unfold pulseCycle
  split
  · rfl
  · refine countCycle_invariant (fun s => (s.pulse p).eraseTimer) (fun s k => ?_) (fun t s => ?_) now s
    · rw [State.pulse_setPulse]
      rfl
    · simp only [firePulseReload, firePulse, State.pulse_setPulse]
      rfl

theorem triCycle_eraseTimer (now : Time) (s : State) : (triCycle now s).tri.eraseTimer = s.tri.eraseTimer := by
  unfold triCycle
  split
  · rfl
  · split
    · rfl
    · refine countCycle_invariant (fun s => s.tri.eraseTimer) ?_ ?_ now s
      · exact fun _ _ => rfl
      · exact fun _ _ => rfl

theorem noiseCycle_eraseTimer (now : Time) (s : State) : (noiseCycle now s).noi.eraseTimer = s.noi.eraseTimer := by
  refine countCycle_invariant (fun s => s.noi.eraseTimer) ?_ ?_ now s
  · exact fun _ _ => rfl
  · exact fun _ _ => rfl

/-- Whatever value one cycle of a generator leaves alone, any number of its cycles leaves alone. -/
theorem process_invariant {α : Type} (f : State → α) {c : Channel} (h : ∀ now s, f (genCycle c now s) = f s) (k : Nat)
    (now : Time) (s : State) : f (process c k now s) = f s := by
  induction k generalizing now s with
  | zero => rfl
  | succ k ih => exact (ih (now + 1) _).trans (h now s)

section elapsed
variable {k : Nat} {s t : State}

theorem Elapsed.pulse_eraseTimer (h : Elapsed k s t) (p : PulseId) :
    (t.pulse p).eraseTimer = (s.pulse p).eraseTimer := by
  have hcycle : ∀ now s, ((genCycle p.channel now s).pulse p).eraseTimer = (s.pulse p).eraseTimer := by
    cases p <;> exact pulseCycle_eraseTimer _
  have hview : SameView p.channel t (process p.channel k s.frameTime s) :=
    ⟨h.generators p.channel, h.rest.store_eq.trans (process_store p.channel k s.frameTime s).symm⟩
  rw [hview.pulse_eq]
  exact process_invariant (fun s => (s.pulse p).eraseTimer) hcycle k s.frameTime s

theorem Elapsed.tri_eraseTimer (h : Elapsed k s t) : t.tri.eraseTimer = s.tri.eraseTimer := by
  obtain ⟨hgenerator, -⟩ := h.generators .tri
  exact (congrArg Triangle.eraseTimer hgenerator).trans
    (process_invariant (c := .tri) (fun s => s.tri.eraseTimer) triCycle_eraseTimer k s.frameTime s)

theorem Elapsed.noi_eraseTimer (h : Elapsed k s t) : t.noi.eraseTimer = s.noi.eraseTimer := by
  obtain ⟨hgenerator, -⟩ := h.generators .noi
  exact (congrArg Noise.eraseTimer hgenerator).trans
    (process_invariant (c := .noi) (fun s => s.noi.eraseTimer) noiseCycle_eraseTimer k s.frameTime s)

end elapsed

theorem toNat_elapse_seqDiv {k : Nat} {s : State} (h : k ≤ s.seqDiv.toNat) :
    (elapse k s).seqDiv.toNat = s.seqDiv.toNat - k := by
  have := s.seqDiv.isLt
  unfold elapse
  bv_omega

/-- Frame time counts modulo `2^TIME_W` (R149). -/
theorem toNat_elapse_frameTime (k : Nat) (s : State) :
    (elapse k s).frameTime.toNat = (s.frameTime.toNat + k) % 2 ^ 32 := by
  simp [elapse, BitVec.toNat_add]

/-- Settles O28: with the divider running ADVANCE is nothing but cycles of the generators and of the clock. -/
theorem noTickBeforeDividerExpires : Obligations.NoTickBeforeDividerExpires := by
  intro n s hruns
  have helapsed := advance_elapsed n.toNat s hruns
  obtain ⟨hindex, hmode, hdiv, hdomain, htime, -⟩ := helapsed.rest
  refine ⟨advance n.toNat s, rfl, ?_, hindex, hmode, hdomain, ?_, fun p => ?_, ?_, ?_⟩
  · rw [hdiv, toNat_elapse_seqDiv hruns.le]
  · rw [htime, toNat_elapse_frameTime]
  · exact Pulse.eq_of_eraseTimer_eq (helapsed.pulse_eraseTimer p)
  · exact Triangle.eq_of_eraseTimer_eq helapsed.tri_eraseTimer
  · exact Noise.eq_of_eraseTimer_eq helapsed.noi_eraseTimer

/-! ### One step in every period (R172, R173) -/

theorem seqPeriod_eq_ite (d : Domain) : seqPeriod d = if d = .ntsc then 7457 else 6927 := by cases d <;> rfl

theorem toNat_seqPeriod (d : Domain) : (seqPeriod d).toNat = if d = .ntsc then 7457 else 6927 := by cases d <;> rfl

/-- As many cycles as a running divider holds end in exactly one sequencer step, the divider reloaded (R172). -/
theorem advance_seqDiv {s : State} (hruns : s.seqDiv.toNat ≠ 0) : ∃ u, Elapsed s.seqDiv.toNat s u ∧
    advance s.seqDiv.toNat s = seqStep { u with seqDiv := seqPeriod u.domain } := by
  obtain ⟨k, hk⟩ := Nat.exists_eq_succ_of_ne_zero hruns
  have hlast := (advance_elapsed k s (by omega)).add_cycle
  have hexpired : (elapse (k + 1) s).seqDiv = 0 := by
    refine BitVec.eq_of_toNat_eq ?_
    rw [toNat_elapse_seqDiv hk.ge, hk]
    exact Nat.sub_self _
  rw [← hlast.rest.seqDiv_eq] at hexpired
  rw [hk]
  refine ⟨_, hlast, ?_⟩
  rw [Nat.succ_eq_add_one, advance_add, advance_succ, advance_zero, cycle_eq, stepIfExpired_of_expired hexpired]

/-- State `t` is `s` but for `k` sequencer steps, as far as the sequencer is concerned. -/
structure SteppedTimes (k : Nat) (s t : State) : Prop where
  seqDiv : t.seqDiv = s.seqDiv
  domain : t.domain = s.domain
  mode   : t.seqMode = s.seqMode
  index  : t.seqIndex = (nextIndex s.seqMode)^[k] s.seqIndex

theorem advance_one_period {s : State} (hfull : s.seqDiv = seqPeriod s.domain) :
    SteppedTimes 1 s (advance s.seqDiv.toNat s) := by
  have hruns : s.seqDiv.toNat ≠ 0 := by
    rw [hfull]
    exact Nat.ne_of_gt (seqPeriod_bounds s.domain).1
  obtain ⟨u, helapsed, hadvance⟩ := advance_seqDiv hruns
  obtain ⟨hindex, hmode, -, hdomain, -⟩ := helapsed.rest
  rw [hadvance]
  constructor
  · rw [seqStep_seqDiv, hfull, hdomain]
    rfl
  · rw [seqStep_domain, hdomain]
    rfl
  · rw [seqStep_seqMode, hmode]
    rfl
  · rw [seqStep_seqIndex, hindex, hmode]
    rfl

theorem advance_periods (k : Nat) {s : State} (hfull : s.seqDiv = seqPeriod s.domain) :
    SteppedTimes k s (advance (k * s.seqDiv.toNat) s) := by
  induction k generalizing s with
  | zero =>
    rw [Nat.zero_mul, advance_zero]
    exact ⟨rfl, rfl, rfl, rfl⟩
  | succ k ih =>
    have hfirst := advance_one_period hfull
    have hlater := ih (hfirst.seqDiv.trans (hfull.trans (congrArg seqPeriod hfirst.domain.symm)))
    rw [hfirst.seqDiv] at hlater
    rw [Nat.succ_mul, Nat.add_comm (k * _), advance_add]
    refine ⟨hlater.seqDiv.trans hfirst.seqDiv, hlater.domain.trans hfirst.domain, hlater.mode.trans hfirst.mode, ?_⟩
    rw [hlater.index, hfirst.mode, hfirst.index, ← Function.iterate_add_apply]

/-- ADVANCE of a count that fits its operand (R103, R148). -/
theorem exec_adv_ofNat {n : Nat} (h : n < 2 ^ 28) (s : State) :
    exec (.adv (BitVec.ofNat 28 n)) s = .next (advance n s) :=
  congrArg (fun n => Host.Outcome.next (advance n s)) (Nat.mod_eq_of_lt h)

/-- Settles O29: `k` periods are `k` sequencer steps, each of which moves the index on by one. -/
theorem sequencerStepsOncePerPeriod : Obligations.SequencerStepsOncePerPeriod := by
  intro k s hvalid hfull hfits
  have hperiod : s.seqDiv = seqPeriod s.domain := BitVec.eq_of_toNat_eq (hfull.trans (toNat_seqPeriod _).symm)
  have hsteps := advance_periods k hperiod
  refine ⟨advance (k * s.seqDiv.toNat) s, exec_adv_ofNat hfits s, hsteps.seqDiv, hsteps.mode, ?_⟩
  rw [hsteps.index, toNat_iterate_nextIndex k ((State.indexValid_iff s).mp hvalid), SeqMode.steps_eq_ite]

/-! ### No generator sees the divider (R149) -/

section withSeqDiv
variable (d : BitVec 16)

theorem setLevel_withSeqDiv (ch : Channel) (v : Nat) (t : Time) (s : State) :
    setLevel ch v t { s with seqDiv := d } = { setLevel ch v t s with seqDiv := d } := by
  unfold setLevel
  split <;> rfl

theorem Machine.State.pulse_withSeqDiv (p : PulseId) (s : State) :
    ({ s with seqDiv := d } : State).pulse p = s.pulse p := by
  cases p <;> rfl

theorem Machine.State.setPulse_withSeqDiv (p : PulseId) (g : Pulse) (s : State) :
    ({ s with seqDiv := d } : State).setPulse p g = { s.setPulse p g with seqDiv := d } := by
  cases p <;> rfl

/-- A timer cycle whose timer update and fire do not see the divider does not see it. -/
theorem countCycle_withSeqDiv {n : Nat} {timer : State → BitVec n} {setTimer : State → BitVec n → State}
    {fire : Time → State → State} (htimer : ∀ s : State, timer { s with seqDiv := d } = timer s)
    (hset : ∀ (s : State) k, setTimer { s with seqDiv := d } k = { setTimer s k with seqDiv := d })
    (hfire : ∀ t (s : State), fire t { s with seqDiv := d } = { fire t s with seqDiv := d }) (now : Time) (s : State) :
    countCycle timer setTimer fire now { s with seqDiv := d } =
      { countCycle timer setTimer fire now s with seqDiv := d } := by
  refine countCycle_rel (fun a b => b = { a with seqDiv := d }) ?_ ?_ ?_ now rfl
  · rintro a b rfl
    exact (htimer a).symm
  · rintro a b rfl k
    exact hset a k
  · rintro a b rfl t
    exact hfire t a

theorem firePulseReload_withSeqDiv (p : PulseId) (t : Time) (s : State) :
    firePulseReload p t { s with seqDiv := d } = { firePulseReload p t s with seqDiv := d } := by
  simp only [firePulseReload, firePulse, State.pulse_withSeqDiv, setLevel_withSeqDiv, State.setPulse_withSeqDiv]

theorem pulseCycle_withSeqDiv (p : PulseId) (now : Time) (s : State) :
    pulseCycle p now { s with seqDiv := d } = { pulseCycle p now s with seqDiv := d } := by
  simp only [pulseCycle, State.pulse_withSeqDiv]
  split
  · rfl
  · refine countCycle_withSeqDiv d (fun s => ?_) (fun s k => ?_) (firePulseReload_withSeqDiv d p) now s
    · rw [State.pulse_withSeqDiv]
    · rw [State.pulse_withSeqDiv, State.setPulse_withSeqDiv]

theorem fireTriReload_withSeqDiv (t : Time) (s : State) :
    fireTriReload t { s with seqDiv := d } = { fireTriReload t s with seqDiv := d } := by
  simp only [fireTriReload, fireTri, setLevel_withSeqDiv]

theorem triUltrasonic_withSeqDiv (now : Time) (s : State) :
    triUltrasonic now { s with seqDiv := d } = { triUltrasonic now s with seqDiv := d } := by
  simp only [triUltrasonic, setLevel_withSeqDiv]

theorem triCycle_withSeqDiv (now : Time) (s : State) :
    triCycle now { s with seqDiv := d } = { triCycle now s with seqDiv := d } := by
  simp only [triCycle]
  split
  · rfl
  · split
    · exact triUltrasonic_withSeqDiv d now s
    · exact countCycle_withSeqDiv d (fun _ => rfl) (fun _ _ => rfl) (fireTriReload_withSeqDiv d) now s

theorem fireNoiseReload_withSeqDiv (t : Time) (s : State) :
    fireNoiseReload t { s with seqDiv := d } = { fireNoiseReload t s with seqDiv := d } := by
  simp only [fireNoiseReload, fireNoise, setLevel_withSeqDiv]

theorem noiseCycle_withSeqDiv (now : Time) (s : State) :
    noiseCycle now { s with seqDiv := d } = { noiseCycle now s with seqDiv := d } := by
  refine countCycle_withSeqDiv d ?_ ?_ (fireNoiseReload_withSeqDiv d) now s
  · exact fun _ => rfl
  · exact fun _ _ => rfl

theorem dmcReader_withSeqDiv (t : Time) (s : State) :
    dmcReader t { s with seqDiv := d } = { dmcReader t s with seqDiv := d } := by
  simp only [dmcReader]
  split <;> rfl

theorem dmcOutput_withSeqDiv (t : Time) (s : State) :
    dmcOutput t { s with seqDiv := d } = { dmcOutput t s with seqDiv := d } :=
  setLevel_withSeqDiv d .dmc _ t { s with dmc := s.dmc.outputBit }

theorem fireDmcReload_withSeqDiv (t : Time) (s : State) :
    fireDmcReload t { s with seqDiv := d } = { fireDmcReload t s with seqDiv := d } := by
  simp only [fireDmcReload, fireDmc, dmcReader_withSeqDiv, dmcOutput_withSeqDiv]

theorem dmcCycle_withSeqDiv (now : Time) (s : State) :
    dmcCycle now { s with seqDiv := d } = { dmcCycle now s with seqDiv := d } := by
  refine countCycle_withSeqDiv d ?_ ?_ (fireDmcReload_withSeqDiv d) now s
  · exact fun _ => rfl
  · exact fun _ _ => rfl

theorem genCycle_withSeqDiv (c : Channel) (now : Time) (s : State) :
    genCycle c now { s with seqDiv := d } = { genCycle c now s with seqDiv := d } := by
  cases c with
  | p1 => exact pulseCycle_withSeqDiv d .p1 now s
  | p2 => exact pulseCycle_withSeqDiv d .p2 now s
  | tri => exact triCycle_withSeqDiv d now s
  | noi => exact noiseCycle_withSeqDiv d now s
  | dmc => exact dmcCycle_withSeqDiv d now s

theorem generatorsCycle_withSeqDiv (now : Time) (s : State) :
    generatorsCycle now { s with seqDiv := d } = { generatorsCycle now s with seqDiv := d } := by
  simp only [generatorsCycle, genCycle_withSeqDiv]

end withSeqDiv

/-- A cycle that starts with the divider at 2 takes no sequencer step (R172). -/
theorem cycle_withSeqDiv_two (s : State) :
    cycle { s with seqDiv := 2 } = elapse 1 { generatorsCycle s.frameTime s with seqDiv := 2 } := by
  rw [cycle_eq, generatorsCycle_withSeqDiv]
  have hruns : (2 : BitVec 16) - 1 ≠ 0 := by decide
  exact stepIfExpired_of_running hruns

/-- The cycle in which the divider expires is the same cycle with the divider still running, then the step (R149). -/
theorem cycle_of_seqDiv_one {s : State} (hlast : s.seqDiv.toNat = 1) :
    cycle s = seqStep { cycle { s with seqDiv := 2 } with seqDiv := seqPeriod s.domain } := by
  obtain ⟨-, -, hdiv, hdomain, -⟩ := generatorsCycle_agreeOnRest s.frameTime s
  rw [cycle_withSeqDiv_two, cycle_eq]
  generalize generatorsCycle s.frameTime s = u at hdiv hdomain ⊢
  have hexpired : (elapse 1 u).seqDiv = 0 := by
    refine BitVec.eq_of_toNat_eq ?_
    rw [toNat_elapse_seqDiv (by rw [← hdiv, hlast]), ← hdiv, hlast]
    rfl
  rw [stepIfExpired_of_expired hexpired, hdomain]
  rfl

/-- Settles O30: the generators do the same in both runs, as they do not see the divider; only the step differs. -/
theorem sequencerStepEndsItsCycle : Obligations.SequencerStepEndsItsCycle := by
  intro s hlast
  refine ⟨cycle { s with seqDiv := 2 }, rfl, ?_⟩
  rw [← seqPeriod_eq_ite, ← cycle_of_seqDiv_one hlast]
  rfl

end Sys2Proof
end

/-! ## The other pulse registers (spec/30_encoding.md R110, R113; spec/42_pulse.md R191, R194, R205, R208) -/

section
namespace Sys2Proof.Machine

/-! ### Operands as numbers -/

/-- Bits 7:6 (R110). -/
theorem toNat_dutyOf (data : Byte) : (dutyOf data).toNat = data.toNat / 2 ^ 6 := by
  rw [dutyOf, BitVec.extractLsb'_toNat, Nat.shiftRight_eq_div_pow]
  omega

/-- Bits 3:0 (R110, R117). -/
theorem toNat_volOf (data : Byte) : (volOf data).toNat = data.toNat % 2 ^ 4 := by
  rw [volOf, BitVec.extractLsb'_toNat, Nat.shiftRight_zero]

/-- R113, R126: data bits 2:0 above the low eight bits of the old period. -/
theorem toNat_withPeriodHigh (period : Period) (data : Byte) :
    (withPeriodHigh period data).toNat = data.toNat % 2 ^ 3 * 2 ^ 8 + period.toNat % 2 ^ 8 := by
  have hlow := (period.extractLsb' 0 8).isLt
  rw [withPeriodHigh, BitVec.toNat_append, ← Nat.shiftLeft_add_eq_or_of_lt hlow, BitVec.extractLsb'_toNat,
    BitVec.extractLsb'_toNat, Nat.shiftRight_zero, Nat.shiftRight_zero, Nat.shiftLeft_eq]

/-- R80: `LENGTH_TABLE` as a list of numbers. -/
theorem lengthTable_getElem? (i : BitVec 5) :
    (lengthTableDefault.toList.map BitVec.toNat)[i.toNat]? = some (lengthOf i).toNat := by
  revert i
  decide

/-- R126: the length load is the table entry of data bits 7:3. -/
theorem lengthTable_getElem?_lengthLoad (data : Byte) :
    (lengthTableDefault.toList.map BitVec.toNat)[data.toNat / 2 ^ 3]? = some (lengthLoad data).toNat := by
  have hindex : (data.extractLsb' 3 5).toNat = data.toNat / 2 ^ 3 := by
    rw [BitVec.extractLsb'_toNat, Nat.shiftRight_eq_div_pow]
    omega
  rw [← hindex]
  exact lengthTable_getElem? _

/-! ### The writes -/

/-- What both pulse generators take from one write, each takes from it. -/
theorem eq_write_of_pulse {s : State} {write : Pulse → Pulse} {old new : Pulse}
    (h : (old = s.p1 ∧ new = write s.p1) ∨ (old = s.p2 ∧ new = write s.p2)) : new = write old := by
  obtain ⟨rfl, rfl⟩ | ⟨rfl, rfl⟩ := h <;> rfl

/-- Settles O13: both commands put `Pulse.write0` of the data in place of their generator's fields, and what it writes
are the flags and fields of R110. -/
theorem pulseControlWrite : Obligations.PulseControlWrite := by
  intro data s
  refine ⟨s.p1.write0 data, s.p2.write0 data, rfl, rfl, fun old new hwrite => ?_⟩
  obtain rfl : new = old.write0 data := eq_write_of_pulse (write := (·.write0 data)) hwrite
  exact ⟨rfl, toNat_dutyOf data, flagBit_eq_true_iff data 5, flagBit_eq_true_iff data 4, toNat_volOf data⟩

/-- Settles O16: both commands put `Pulse.write3` of the data in place of their generator's fields; the period and the
length are read off the data as numbers, and `enabled` is set by `ctrl`. -/
theorem pulseTriggerWrite : Obligations.PulseTriggerWrite := by
  intro data s
  refine ⟨s.p1.write3 data, s.p2.write3 data, rfl, rfl, fun old new hwrite => ?_⟩
  obtain rfl : new = old.write3 data := eq_write_of_pulse (write := (·.write3 data)) hwrite
  exact ⟨rfl, toNat_withPeriodHigh old.period data, lengthTable_getElem?_lengthLoad data, Bool.or_eq_true_iff⟩

end Sys2Proof.Machine
end

/-! ## The modulation units (spec/42_pulse.md R197 to R199; spec/43_triangle.md R237, R238; spec/44_noise.md R257, R260) -/

section
namespace Sys2Proof.Machine

/-! ### Counters -/

/-- A counter that is not 0 counts down without wrapping. -/
theorem toNat_sub_one_of_ne_zero {n : Nat} {x : BitVec n} (hx : x.toNat ≠ 0) : (x - 1).toNat = x.toNat - 1 := by
  have hlt := x.isLt
  have hwidth : 2 ≤ 2 ^ n := by omega
  have hone : (1 : BitVec n).toNat = 1 := Nat.mod_eq_of_lt hwidth
  rw [BitVec.toNat_sub_of_le (BitVec.le_def.mpr (by omega)), hone]

/-- A counter that stops at 0 counts down on numbers. -/
theorem toNat_count_to_zero {n : Nat} (x : BitVec n) : (if x ≠ 0 then x - 1 else x).toNat = x.toNat - 1 := by
  by_cases hx : x = 0
  · simp [hx]
  · rw [if_pos hx, toNat_sub_one_of_ne_zero fun h => hx (BitVec.eq_of_toNat_eq (by simpa using h))]

/-! ### The envelope (R197, R257) -/

/-- R197: the level wraps from 0 to 15 when looping, else it stops at 0. -/
theorem Envelope.toNat_decay (e : Envelope) :
    e.decay.toNat = if e.loop then (e.level.toNat + 15) % 16 else e.level.toNat - 1 := by
  unfold Envelope.decay
  split
  · bv_omega
  · exact toNat_count_to_zero e.level

/-- R197: a running divider only counts. -/
theorem Envelope.clock_of_running {e : Envelope} (h : e.div.toNat ≠ 0) : e.clock = { e with div := e.div - 1 } :=
  if_neg fun hzero => h (congrArg BitVec.toNat hzero)

/-- R197: an expired divider is reloaded, and the level takes a step unless it is frozen. -/
theorem Envelope.clock_of_expired {e : Envelope} (h : e.div.toNat = 0) :
    e.clock = { e with div := e.vol, level := if e.const then e.level else e.decay } :=
  if_pos (BitVec.eq_of_toNat_eq h)

/-- R197: a fast tick writes divider and level alone. -/
theorem Envelope.clock_frame (e : Envelope) : e.clock = { e with div := e.clock.div, level := e.clock.level } := by
  unfold Envelope.clock
  split <;> rfl

/-- Settles O22: the three generators run the one `Envelope.clock`, whose two branches are the divider's two cases. -/
theorem envelopeClock : Obligations.EnvelopeClock := by
  intro e
  refine ⟨e.clock, ?_, ?_, e.clock_frame, fun hruns => ?_, fun hexpired => ?_⟩
  · rintro g rfl
    rfl
  · rintro g rfl
    rfl
  · rw [Envelope.clock_of_running hruns]
    exact ⟨toNat_sub_one_of_ne_zero hruns, rfl⟩
  · rw [Envelope.clock_of_expired hexpired]
    refine ⟨rfl, ?_⟩
    rw [apply_ite BitVec.toNat, Envelope.toNat_decay]

/-! ### Length counters and the linear counter (R199, R237, R238, R260) -/

/-- R237: the linear counter is reloaded under `halt`, else it counts down to 0. -/
theorem Triangle.toNat_nextLinear (g : Triangle) :
    g.nextLinear.toNat = if g.halt then g.linReload.toNat else g.linCounter.toNat - 1 := by
  rw [Triangle.nextLinear, apply_ite BitVec.toNat, toNat_count_to_zero]

/-- Settles O24: three generators run the one `clockLength`, under their halt flags, and the linear counter is
`Triangle.nextLinear`. -/
theorem lengthAndLinearClock : Obligations.LengthAndLinearClock := by
  refine ⟨fun g => ?_, fun g => ?_, fun g => ?_, fun g => ?_⟩
  · exact ⟨_, rfl, toNat_clockLength g.env.loop g.length⟩
  · exact ⟨_, rfl, toNat_clockLength g.env.loop g.length⟩
  · exact ⟨_, rfl, toNat_clockLength g.triLoop g.length⟩
  · exact ⟨_, _, rfl, g.toNat_nextLinear, Bool.and_eq_true_iff⟩

/-! ### The sweep unit (R198) -/

theorem PulseId.diff_eq_ite (p : PulseId) : p.diff = if p = .p1 then 1 else 0 := by cases p <;> rfl

/-- R198: what the period moves by. -/
def Pulse.sweepAmount (g : Pulse) : Nat := g.period.toNat / 2 ^ g.swShift.toNat

theorem Pulse.sweepTarget_eq (g : Pulse) (diff : Int) : g.sweepTarget diff =
    if g.swNeg then (g.period.toNat : Int) - g.sweepAmount - diff else (g.period.toNat : Int) + g.sweepAmount := by
  have hamount : (g.period >>> g.swShift).toNat = g.sweepAmount := by
    rw [BitVec.ushiftRight_eq', BitVec.toNat_ushiftRight, Nat.shiftRight_eq_div_pow, Pulse.sweepAmount]
  simp only [Pulse.sweepTarget, hamount]

theorem Pulse.sweepUpdates_iff (g : Pulse) (r : Int) : g.sweepUpdates r = true ↔
    g.swEn = true ∧ 7 < g.period.toNat ∧ r < 0x800 ∧ 0 < g.swShift.toNat := by
  simp only [Pulse.sweepUpdates, Bool.and_eq_true, decide_eq_true_eq, ne_zero_iff_toNat_pos, and_assoc]

/-- R198: a shift of at least 1 halves the period at least. -/
theorem Pulse.sweepAmount_le_half {g : Pulse} (h : 0 < g.swShift.toNat) : g.sweepAmount ≤ g.period.toNat / 2 :=
  Nat.div_le_div_left (Nat.le_self_pow h.ne' 2) (by decide)

/-- R198 (c): the target of an update is a period, and never a small one. -/
theorem Pulse.sweepTarget_bounds_of_updates {g : Pulse} (p : PulseId)
    (h : g.sweepUpdates (g.sweepTarget p.diff) = true) : 3 ≤ g.sweepTarget p.diff ∧ g.sweepTarget p.diff ≤ 2047 := by
  obtain ⟨-, hperiod, hmax, hshift⟩ := (g.sweepUpdates_iff _).mp h
  have hhalf := Pulse.sweepAmount_le_half hshift
  have hdiff : p.diff ≤ 1 := by cases p <;> decide
  refine ⟨?_, by omega⟩
  rw [Pulse.sweepTarget_eq]
  split <;> omega

/-- R198: the divider step, with the period of an update. -/
theorem Pulse.sweepDivide_eq (g : Pulse) (r : Int) : g.sweepDivide r = { g with
    period := if g.swDiv = 0 ∧ g.sweepUpdates r = true then BitVec.ofInt periodBits r else g.period
    swDiv := if g.swDiv = 0 then g.swPeriod else g.swDiv - 1 } := by
  unfold Pulse.sweepDivide
  by_cases hdiv : g.swDiv = 0
  · simp only [hdiv, if_true, true_and]
  · simp only [hdiv, if_false, false_and]

/-- R198: a sub-register 1 write reloads the divider at the next slow tick, and only at that one. -/
theorem Pulse.sweepReload_eq (g : Pulse) : g.sweepReload = { g with
    swDiv := if g.swWritten then g.swPeriod else g.swDiv
    swWritten := false } := by
  unfold Pulse.sweepReload
  cases hwritten : g.swWritten
  · rw [if_neg Bool.false_ne_true, if_neg Bool.false_ne_true, ← hwritten]
  · rfl

/-- R198: a slow tick in one equation. The update test looks at the divider from before the tick, and the write flag
reloads the divider after it. -/
theorem Pulse.sweep_eq (g : Pulse) (diff : Int) : g.sweep diff = { g with
    swResult := g.sweepTarget diff
    period := if g.swDiv = 0 ∧ g.sweepUpdates (g.sweepTarget diff) = true
      then BitVec.ofInt periodBits (g.sweepTarget diff) else g.period
    swDiv := if g.swWritten then g.swPeriod else if g.swDiv = 0 then g.swPeriod else g.swDiv - 1
    swWritten := false } := by
  rw [Pulse.sweep, Pulse.sweepDivide_eq, Pulse.sweepReload_eq]
  rfl

theorem Pulse.sweep_period_of_updates {g : Pulse} (p : PulseId) (hdiv : g.swDiv = 0)
    (h : g.sweepUpdates (g.sweepTarget p.diff) = true) : ((g.sweep p.diff).period.toNat : Int) = g.sweepTarget p.diff := by
  obtain ⟨hmin, hmax⟩ := Pulse.sweepTarget_bounds_of_updates p h
  have hperiod : (g.sweep p.diff).period = BitVec.ofInt periodBits (g.sweepTarget p.diff) := by
    rw [Pulse.sweep_eq]
    exact if_pos ⟨hdiv, h⟩
  rw [hperiod, BitVec.toNat_ofInt]
  simp only [periodBits]
  omega

theorem Pulse.toNat_sweep_swDiv (g : Pulse) (diff : Int) : (g.sweep diff).swDiv.toNat =
    if g.swWritten = true ∨ g.swDiv.toNat = 0 then g.swPeriod.toNat else g.swDiv.toNat - 1 := by
  have hzero : g.swDiv = 0 ↔ g.swDiv.toNat = 0 := BitVec.toNat_inj.symm
  rw [Pulse.sweep_eq]
  simp only [hzero, apply_ite BitVec.toNat]
  by_cases hdiv : g.swDiv.toNat = 0
  · simp only [hdiv, if_true, or_true, ite_self]
  · simp only [hdiv, if_false, or_false, toNat_sub_one_of_ne_zero hdiv]

/-- Settles O23: `sweep_eq` is the statement but for the numbers; the target's range makes its way into the period
exact. -/
theorem sweepClock : Obligations.SweepClock := by
  intro p g shifted target updates
  have htarget : g.sweepTarget p.diff = target := by
    rw [Pulse.sweepTarget_eq, PulseId.diff_eq_ite]
    rfl
  have hupdates : g.swDiv = 0 ∧ g.sweepUpdates (g.sweepTarget p.diff) = true ↔ updates := by
    rw [Pulse.sweepUpdates_iff, htarget, ← BitVec.toNat_inj]
    rfl
  refine ⟨g.sweep p.diff, rfl, ?_, fun h => ?_, fun h => ?_, g.toNat_sweep_swDiv p.diff⟩
  · rw [← htarget, Pulse.sweep_eq]
  · obtain ⟨hdiv, htests⟩ := hupdates.mpr h
    rw [← htarget]
    exact ⟨Pulse.sweep_period_of_updates p hdiv htests, Pulse.sweepTarget_bounds_of_updates p htests⟩
  · rw [Pulse.sweep_eq, if_neg (mt hupdates.mp h)]

end Sys2Proof.Machine
end

/-! ## One master cycle of the pulse timers (spec/42_pulse.md R200, R201; spec/46_mixer.md R301)

ADVANCE 1 shows of a pulse generator what `pulseCycle` makes of it: the other generators do not touch it, and a sequencer
step that ends the cycle moves neither its timer nor its duty step. -/

section
namespace Sys2Proof
open Machine

/-! ### The three cases of a timer cycle -/

section countCycle
variable {n : Nat} {timer : State → BitVec n} {setTimer : State → BitVec n → State} {fire : Time → State → State}
  {s : State}

/-- A timer held at 0 has a fire due now; the timer the fire reloads counts, and goes on. -/
theorem countCycle_of_due (now : Time) (hdue : timer s = 0)
    (hruns : timer (setTimer (fire now s) (timer (fire now s) - 1)) ≠ 0) :
    countCycle timer setTimer fire now s = setTimer (fire now s) (timer (fire now s) - 1) := by
  simp only [countCycle, if_pos hdue, if_neg hruns]

/-- A timer that reaches 0 fires at the end of the cycle. -/
theorem countCycle_of_expiring (now : Time) (hcounts : timer s ≠ 0) (hexpires : timer (setTimer s (timer s - 1)) = 0) :
    countCycle timer setTimer fire now s = fire (now + 1) (setTimer s (timer s - 1)) := by
  simp only [countCycle, if_neg hcounts, if_pos hexpires]

/-- Any other timer only counts. -/
theorem countCycle_of_running (now : Time) (hcounts : timer s ≠ 0) (hruns : timer (setTimer s (timer s - 1)) ≠ 0) :
    countCycle timer setTimer fire now s = setTimer s (timer s - 1) := by
  simp only [countCycle, if_neg hcounts, if_neg hruns]

end countCycle

/-! ### The level of a fire (R201) -/

/-- R81: the rows of `DUTY_TABLE` as numbers, step `k` at bit `k`. -/
theorem Machine.dutyBit_eq_true_iff (duty : BitVec 2) (step : BitVec 4) : dutyBit duty step = true ↔
    [0x000C, 0x003C, 0x03FC, 0xFFC3].getD duty.toNat 0 / 2 ^ step.toNat % 2 = 1 := by
  revert duty step
  decide

/-- R201: the volume while the generator is not muted and its duty bit is 1, else 0. -/
theorem Machine.Pulse.output_eq (g : Pulse) : g.output =
    if 7 < g.period.toNat ∧ g.enabled = true ∧ 0 < g.length.toNat ∧ g.swResult < 0x800 ∧
      [0x000C, 0x003C, 0x03FC, 0xFFC3].getD g.duty.toNat 0 / 2 ^ g.dutyStep.toNat % 2 = 1
    then (if g.env.const then g.env.vol.toNat else g.env.level.toNat) else 0 := by
  simp only [Pulse.output, Pulse.valid, Envelope.output, Bool.and_eq_true, decide_eq_true_eq, ne_zero_iff_toNat_pos,
    dutyBit_eq_true_iff, and_assoc, apply_ite BitVec.toNat]

theorem Machine.Pulse.output_le (g : Pulse) (p : PulseId) : g.output ≤ Channel.levelMax p.channel := by
  have hmax : Channel.levelMax p.channel = 15 := by cases p <;> rfl
  have hvolume := g.env.output.isLt
  unfold Pulse.output
  split <;> omega

/-! ### What a cycle does to one pulse generator, on numbers -/

/-- From `s` to `t` the timer of pulse `p` comes to `timer` and nothing else of what a fire moves changes. -/
def PulseStill (p : PulseId) (timer : Nat) (s t : State) : Prop :=
  (t.pulse p).timer.toNat = timer ∧ (t.pulse p).dutyStep = (s.pulse p).dutyStep ∧
    t.levels.get p.channel = s.levels.get p.channel ∧ eventsOf p.channel t.events = eventsOf p.channel s.events

/-- From `s` to `t` pulse `p` fires once, stamped `stamp`, presenting the level `new`; its timer comes to `timer`. -/
def PulseFires (p : PulseId) (new : Nat) (stamp : Time) (timer : Nat) (s t : State) : Prop :=
  (t.pulse p).timer.toNat = timer ∧ (t.pulse p).dutyStep = (s.pulse p).dutyStep + 1 ∧
    t.levels.get p.channel = new ∧
    eventsOf p.channel t.events = eventsOf p.channel s.events ++ levelChange p.channel new stamp s

/-- R126: the timer reload as a number. -/
theorem toNat_periodReload (period : Period) : (periodReload period).toNat = period.toNat + 1 := by
  have := Period.toNat_lt period
  unfold periodReload
  bv_omega

theorem firePulseReload_fires (p : PulseId) (t : Time) (s : State) :
    PulseFires p (s.pulse p).output t ((s.pulse p).period.toNat + 1) s (firePulseReload p t s) := by
  simp [PulseFires, firePulseReload, firePulse, toNat_periodReload, Pulse.output_le]

section pulseCycle
variable {p : PulseId} {s : State} (now : Time)

/-- Counting after a fire leaves the fire as it was. -/
theorem PulseFires.setTimer {new k : Nat} {stamp : Time} {t : State} (h : PulseFires p new stamp k s t)
    (n : BitVec 12) : PulseFires p new stamp n.toNat s (t.setPulse p { t.pulse p with timer := n }) := by
  obtain ⟨-, hdutyStep, hlevel, hevents⟩ := h
  simpa [PulseFires] using ⟨hdutyStep, hlevel, hevents⟩

/-- A fire does not show what the timer was before it. -/
theorem PulseFires.of_setTimer {new k : Nat} {stamp : Time} {n : BitVec 12} {t : State}
    (h : PulseFires p new stamp k (s.setPulse p { s.pulse p with timer := n }) t) : PulseFires p new stamp k s t := by
  cases p <;> exact h

/-- R200: frozen while the period is 0. -/
theorem pulseCycle_still_of_frozen (hperiod : (s.pulse p).period.toNat = 0) :
    PulseStill p (s.pulse p).timer.toNat s (pulseCycle p now s) := by
  have hfrozen : (s.pulse p).period = 0 := BitVec.eq_of_toNat_eq hperiod
  rw [pulseCycle, if_pos hfrozen]
  exact ⟨rfl, rfl, rfl, rfl⟩

/-- R200: a due fire is stamped `now`, and the reloaded timer counts in the same cycle. -/
theorem pulseCycle_fires_of_due (hperiod : 0 < (s.pulse p).period.toNat) (htimer : (s.pulse p).timer.toNat = 0) :
    PulseFires p (s.pulse p).output now (s.pulse p).period.toNat s (pulseCycle p now s) := by
  have hfires := firePulseReload_fires p now s
  have ⟨hreload, _⟩ := hfires
  have hcounted : (((firePulseReload p now s).pulse p).timer - 1).toNat = (s.pulse p).period.toNat := by
    rw [toNat_sub_one_of_ne_zero (by omega), hreload, Nat.add_sub_cancel]
  rw [pulseCycle, if_neg ((ne_zero_iff_toNat_pos _).mpr hperiod), countCycle_of_due, ← hcounted]
  · exact hfires.setTimer _
  · exact BitVec.eq_of_toNat_eq htimer
  · rw [State.pulse_setPulse]
    exact (ne_zero_iff_toNat_pos _).mpr (hcounted ▸ hperiod)

/-- R200: a timer at 1 expires in this cycle, and the fire is stamped `now + 1`. -/
theorem pulseCycle_fires_of_expiring (hperiod : 0 < (s.pulse p).period.toNat) (htimer : (s.pulse p).timer.toNat = 1) :
    PulseFires p (s.pulse p).output (now + 1) ((s.pulse p).period.toNat + 1) s (pulseCycle p now s) := by
  have htimer : (s.pulse p).timer = 1 := BitVec.eq_of_toNat_eq htimer
  rw [pulseCycle, if_neg ((ne_zero_iff_toNat_pos _).mpr hperiod), countCycle_of_expiring]
  · have hfires := firePulseReload_fires p (now + 1) (s.setPulse p { s.pulse p with timer := (s.pulse p).timer - 1 })
    rw [State.pulse_setPulse] at hfires
    exact hfires.of_setTimer
  · rw [htimer]
    decide
  · rw [State.pulse_setPulse, htimer]
    rfl

/-- R200: any other timer only counts. -/
theorem pulseCycle_still_of_running (hperiod : 0 < (s.pulse p).period.toNat) (htimer : 2 ≤ (s.pulse p).timer.toNat) :
    PulseStill p ((s.pulse p).timer.toNat - 1) s (pulseCycle p now s) := by
  have hcounted := toNat_sub_one_of_ne_zero (x := (s.pulse p).timer) (by omega)
  rw [pulseCycle, if_neg ((ne_zero_iff_toNat_pos _).mpr hperiod), countCycle_of_running]
  · simp only [PulseStill, State.pulse_setPulse, State.setPulse_levels, State.setPulse_events, hcounted, and_self]
  · exact (ne_zero_iff_toNat_pos _).mpr (by omega)
  · rw [State.pulse_setPulse, ne_zero_iff_toNat_pos, hcounted]
    omega

end pulseCycle

/-! ### What a sequencer step leaves of a pulse generator (R172) -/

/-- The pulse fields that only the timer moves. -/
def Machine.Pulse.position (g : Pulse) : BitVec 12 × BitVec 4 := (g.timer, g.dutyStep)

theorem tickFast_pulse (p : PulseId) (s : State) : (tickFast s).pulse p = (s.pulse p).clockEnvelope := by
  cases p <;> rfl

theorem tickSlow_pulse (p : PulseId) (s : State) : (tickSlow s).pulse p = ((s.pulse p).sweep p.diff).clockLen := by
  cases p <;> rfl

theorem tickFast_position (p : PulseId) (s : State) : ((tickFast s).pulse p).position = (s.pulse p).position := by
  rw [tickFast_pulse]
  rfl

theorem tickSlow_position (p : PulseId) (s : State) : ((tickSlow s).pulse p).position = (s.pulse p).position := by
  rw [tickSlow_pulse, Pulse.sweep_eq]
  rfl

theorem runTicks_position (fast slow reserved : Bool) (p : PulseId) (s : State) :
    ((runTicks fast slow reserved s).pulse p).position = (s.pulse p).position := by
  have hfast : ((if fast then tickFast s else s).pulse p).position = (s.pulse p).position := by
    split
    · exact tickFast_position p s
    · rfl
  simp only [runTicks, tickReserved, ite_self]
  split
  · rw [tickSlow_position, hfast]
  · exact hfast

theorem stepIfExpired_position (p : PulseId) (s : State) :
    ((stepIfExpired s).pulse p).position = (s.pulse p).position := by
  unfold stepIfExpired
  split
  · rw [seqStep, runTicks_position]
    cases p <;> rfl
  · rfl

@[simp] theorem stepIfExpired_levels (s : State) : (stepIfExpired s).levels = s.levels := by
  unfold stepIfExpired
  split <;> simp [seqStep]

/-! ### ADVANCE 1 -/

theorem generatorsCycle_agreeOn_pulse (p : PulseId) (now : Time) (s : State) :
    AgreeOn p.channel (generatorsCycle now s) (pulseCycle p now s) := by
  have hcycle := (generatorsCycle_processed now s).inside p.channel (mem_allChannels _)
  cases p <;> exact hcycle

theorem generatorsCycle_pulse (p : PulseId) (now : Time) (s : State) :
    (generatorsCycle now s).pulse p = (pulseCycle p now s).pulse p := by
  obtain ⟨hgenerator, -⟩ := generatorsCycle_agreeOn_pulse p now s
  cases p <;> exact hgenerator

theorem elapse_pulse (p : PulseId) (k : Nat) (s : State) : (elapse k s).pulse p = s.pulse p := by cases p <;> rfl

@[simp] theorem elapse_levels (k : Nat) (s : State) : (elapse k s).levels = s.levels := rfl

@[simp] theorem elapse_events (k : Nat) (s : State) : (elapse k s).events = s.events := rfl

/-- Two states show the same of what a fire of pulse `p` moves. -/
structure SamePulseOutput (p : PulseId) (a b : State) : Prop where
  timer    : (a.pulse p).timer = (b.pulse p).timer
  dutyStep : (a.pulse p).dutyStep = (b.pulse p).dutyStep
  level    : a.levels.get p.channel = b.levels.get p.channel
  events   : eventsOf p.channel a.events = eventsOf p.channel b.events

/-- R149: a master cycle shows of a pulse generator what its own cycle makes of it. -/
theorem cycle_samePulseOutput (p : PulseId) (s : State) :
    SamePulseOutput p (cycle s) (pulseCycle p s.frameTime s) := by
  obtain ⟨-, hlevel, hevents⟩ := generatorsCycle_agreeOn_pulse p s.frameTime s
  have hposition : ((cycle s).pulse p).position = ((pulseCycle p s.frameTime s).pulse p).position := by
    rw [cycle_eq, stepIfExpired_position, elapse_pulse, generatorsCycle_pulse]
  obtain ⟨htimer, hdutyStep⟩ := Prod.ext_iff.mp hposition
  refine ⟨htimer, hdutyStep, ?_, ?_⟩
  · rw [cycle_eq, stepIfExpired_levels, elapse_levels, hlevel]
  · rw [cycle_eq, stepIfExpired_events, elapse_events, hevents]

theorem PulseStill.of_samePulseOutput {p : PulseId} {k : Nat} {s t u : State} (h : PulseStill p k s u)
    (hsame : SamePulseOutput p t u) : PulseStill p k s t := by
  unfold PulseStill
  rw [hsame.timer, hsame.dutyStep, hsame.level, hsame.events]
  exact h

theorem PulseFires.of_samePulseOutput {p : PulseId} {new k : Nat} {stamp : Time} {s t u : State}
    (h : PulseFires p new stamp k s u) (hsame : SamePulseOutput p t u) : PulseFires p new stamp k s t := by
  unfold PulseFires
  rw [hsame.timer, hsame.dutyStep, hsame.level, hsame.events]
  exact h

/-- R172: in a cycle with no sequencer step a pulse generator moves its timer and its duty step alone. -/
theorem cycle_pulse_of_running (p : PulseId) {s : State} (hruns : s.seqDiv.toNat ≠ 1) : (cycle s).pulse p =
    { s.pulse p with timer := ((cycle s).pulse p).timer, dutyStep := ((cycle s).pulse p).dutyStep } := by
  have hdiv : (elapse 1 (generatorsCycle s.frameTime s)).seqDiv ≠ 0 := by
    have hkept := (generatorsCycle_agreeOnRest s.frameTime s).seqDiv_eq
    unfold elapse
    rw [← hkept]
    bv_omega
  refine Pulse.eq_of_eraseTimer_eq ?_
  rw [cycle_eq, stepIfExpired_of_running hdiv, elapse_pulse, generatorsCycle_pulse, pulseCycle_eraseTimer]

/-- Settles O31: what a cycle shows of the generator is what `pulseCycle` makes of it, case by case of period and timer. -/
theorem pulseMasterCycle : Obligations.PulseMasterCycle := by
  intro s
  refine ⟨cycle s, rfl, fun p => ?_⟩
  intro g old new still fires
  have hnew : (s.pulse p).output = new := Pulse.output_eq _
  have hsame := cycle_samePulseOutput p s
  refine ⟨fun hperiod => ?_, fun hperiod htimer => ?_, fun hperiod htimer => ?_, fun hperiod htimer => ?_,
    cycle_pulse_of_running p⟩
  · exact (pulseCycle_still_of_frozen s.frameTime hperiod).of_samePulseOutput hsame
  · have hfires := (pulseCycle_fires_of_due s.frameTime hperiod htimer).of_samePulseOutput hsame
    rwa [hnew] at hfires
  · have hfires := (pulseCycle_fires_of_expiring s.frameTime hperiod htimer).of_samePulseOutput hsame
    rwa [hnew] at hfires
  · exact (pulseCycle_still_of_running s.frameTime hperiod htimer).of_samePulseOutput hsame

end Sys2Proof
end

/-! ## The triangle registers (spec/30_encoding.md R114, R116; spec/43_triangle.md R231, R234) -/

section
namespace Sys2Proof.Machine

/-- Bits 6:0 (R114). -/
theorem toNat_linReloadOf (data : Byte) : (linReloadOf data).toNat = data.toNat % 2 ^ 7 := by
  rw [linReloadOf, BitVec.extractLsb'_toNat, Nat.shiftRight_zero]

/-- Settles O17: the commands put `Triangle.write0` and `Triangle.write3` of the data in place of the generator's
fields, and what the two write are the flag and the numbers read off the data, with `enabled` set by `ctrl`. -/
theorem triangleWrites : Obligations.TriangleWrites := by
  intro data s
  exact ⟨s.tri.write0 data, s.tri.write3 data, rfl, rfl, flagBit_seven_eq_true_iff data, toNat_linReloadOf data,
    rfl, rfl, toNat_withPeriodHigh s.tri.period data, lengthTable_getElem?_lengthLoad data, Bool.or_eq_true_iff⟩

end Sys2Proof.Machine
end

/-! ## One master cycle of the triangle (spec/43_triangle.md R239, R240; spec/46_mixer.md R301)

ADVANCE 1 shows of the triangle what `triCycle` makes of it: the other generators do not touch it, and a sequencer step
that ends the cycle moves neither its timer nor its step. -/

section
namespace Sys2Proof
open Machine

/-! ### Gates and levels on numbers -/

/-- R239: both gates open and enabled. -/
theorem Machine.Triangle.running_iff (g : Triangle) : g.running = true ↔
    0 < g.linCounter.toNat ∧ 0 < g.length.toNat ∧ g.enabled = true := by
  simp only [Triangle.running, Bool.and_eq_true, decide_eq_true_eq, ne_zero_iff_toNat_pos, and_assoc]

/-- R82: `TRI_TABLE` falls from 15 to 0 and rises to 15 again. -/
theorem Machine.toNat_triLevel (step : BitVec 5) :
    (triLevel step).toNat = if step.toNat < 16 then 15 - step.toNat else step.toNat - 16 := by
  revert step
  decide

/-! ### What a cycle of the triangle shows -/

/-- What state `t` shows of the triangle: timer, step and level register on numbers, and all its level events. -/
structure TriShows (t : State) (timer : Nat) (step : BitVec 5) (level : Nat) (events : List LevelEvent) : Prop where
  timer  : t.tri.timer.toNat = timer
  step   : t.tri.step = step
  level  : t.levels.tri.toNat = level
  events : eventsOf .tri t.events = events

theorem TriShows.refl (s : State) :
    TriShows s s.tri.timer.toNat s.tri.step s.levels.tri.toNat (eventsOf .tri s.events) :=
  ⟨rfl, rfl, rfl, rfl⟩

/-- Setting the timer shows in the timer alone. -/
theorem TriShows.setTimer {t : State} {timer level : Nat} {step : BitVec 5} {events : List LevelEvent}
    (h : TriShows t timer step level events) (n : BitVec 12) :
    TriShows { t with tri := { t.tri with timer := n } } n.toNat step level events :=
  ⟨rfl, h.step, h.level, h.events⟩

/-- R301: a SetLevel call, followed by an update of the triangle's own fields. -/
theorem setLevel_triShows (i : BitVec 5) (t : Time) (s : State) (g : Triangle) :
    TriShows { setLevel .tri (triLevel i).toNat t s with tri := g } g.timer.toNat g.step (triLevel i).toNat
      (eventsOf .tri s.events ++ levelChange .tri (triLevel i).toNat t s) where
  timer := rfl
  step := rfl
  level := setLevel_get_same .tri _ t s (Nat.le_of_lt_succ (triLevel i).isLt)
  events := by rw [setLevel_events, eventsOf_append, eventsOf_levelChange_same]

/-- R239, R240: a fire presents the level of the step before the increment, and reloads the timer. -/
theorem fireTriReload_triShows (t : Time) (s : State) :
    TriShows (fireTriReload t s) (s.tri.period.toNat + 1) (s.tri.step + 1) (triLevel s.tri.step).toNat
      (eventsOf .tri s.events ++ levelChange .tri (triLevel s.tri.step).toNat t s) := by
  rw [← toNat_periodReload]
  exact (setLevel_triShows s.tri.step t s _).setTimer _

section triCycle
variable {s : State} (now : Time)

/-- R239: frozen while inactive. -/
theorem triCycle_of_inactive (hrunning : ¬ s.tri.running = true) : triCycle now s = s :=
  if_pos (by simpa using hrunning)

/-- R239: periods 0 and 1 are the ultrasonic case. -/
theorem triCycle_of_ultrasonic (hrunning : s.tri.running = true) (hperiod : s.tri.period.toNat ≤ 1) :
    triCycle now s = triUltrasonic now s := by
  rw [triCycle, hrunning, Bool.not_true, if_neg Bool.false_ne_true, if_pos hperiod]

/-- R239: any other period runs the timer scheme. -/
theorem triCycle_of_timed (hrunning : s.tri.running = true) (hperiod : 2 ≤ s.tri.period.toNat) :
    triCycle now s = countCycle (fun s => s.tri.timer) (fun s n => { s with tri := { s.tri with timer := n } })
      fireTriReload now s := by
  rw [triCycle, hrunning, Bool.not_true, if_neg Bool.false_ne_true, if_neg (by omega)]

/-- R239: parked at step 7 with its level, stamped `now + 1`; the timer is held. -/
theorem triCycle_shows_of_ultrasonic (hrunning : s.tri.running = true) (hperiod : s.tri.period.toNat ≤ 1) :
    TriShows (triCycle now s) s.tri.timer.toNat 7 8
      (eventsOf .tri s.events ++ levelChange .tri 8 (now + 1) s) := by
  rw [triCycle_of_ultrasonic now hrunning hperiod]
  exact setLevel_triShows 7 (now + 1) s { s.tri with step := 7 }

/-- R239: a due fire is stamped `now`, and the reloaded timer counts in the same cycle. -/
theorem triCycle_shows_of_due (hrunning : s.tri.running = true) (hperiod : 2 ≤ s.tri.period.toNat)
    (htimer : s.tri.timer.toNat = 0) :
    TriShows (triCycle now s) s.tri.period.toNat (s.tri.step + 1) (triLevel s.tri.step).toNat
      (eventsOf .tri s.events ++ levelChange .tri (triLevel s.tri.step).toNat now s) := by
  have hfire := fireTriReload_triShows now s
  have hcounted : ((fireTriReload now s).tri.timer - 1).toNat = s.tri.period.toNat := by
    rw [toNat_sub_one_of_ne_zero (by rw [hfire.timer]; omega), hfire.timer, Nat.add_sub_cancel]
  rw [triCycle_of_timed now hrunning hperiod, countCycle_of_due]
  · exact hcounted ▸ hfire.setTimer _
  · exact BitVec.eq_of_toNat_eq htimer
  · exact (ne_zero_iff_toNat_pos _).mpr (Nat.lt_of_lt_of_eq (by omega) hcounted.symm)

/-- R239: a timer at 1 expires in this cycle, and the fire is stamped `now + 1`. -/
theorem triCycle_shows_of_expiring (hrunning : s.tri.running = true) (hperiod : 2 ≤ s.tri.period.toNat)
    (htimer : s.tri.timer.toNat = 1) :
    TriShows (triCycle now s) (s.tri.period.toNat + 1) (s.tri.step + 1) (triLevel s.tri.step).toNat
      (eventsOf .tri s.events ++ levelChange .tri (triLevel s.tri.step).toNat (now + 1) s) := by
  have hone : s.tri.timer = 1 := BitVec.eq_of_toNat_eq htimer
  rw [triCycle_of_timed now hrunning hperiod, countCycle_of_expiring]
  · exact fireTriReload_triShows (now + 1) _
  · rw [hone]
    decide
  · rw [hone]
    rfl

/-- R239: any other timer only counts. -/
theorem triCycle_shows_of_counting (hrunning : s.tri.running = true) (hperiod : 2 ≤ s.tri.period.toNat)
    (htimer : 2 ≤ s.tri.timer.toNat) :
    TriShows (triCycle now s) (s.tri.timer.toNat - 1) s.tri.step s.levels.tri.toNat (eventsOf .tri s.events) := by
  have hcounted := toNat_sub_one_of_ne_zero (x := s.tri.timer) (by omega)
  rw [triCycle_of_timed now hrunning hperiod, countCycle_of_running]
  · exact hcounted ▸ (TriShows.refl s).setTimer _
  · exact (ne_zero_iff_toNat_pos _).mpr (by omega)
  · exact (ne_zero_iff_toNat_pos _).mpr (Nat.lt_of_lt_of_eq (by omega) hcounted.symm)

end triCycle

/-! ### What a sequencer step leaves of the triangle (R172) -/

/-- The triangle fields that only the timer moves. -/
def Machine.Triangle.position (g : Triangle) : BitVec 12 × BitVec 5 := (g.timer, g.step)

theorem Machine.Triangle.position_eq_iff (g g' : Triangle) :
    g.position = g'.position ↔ g.timer = g'.timer ∧ g.step = g'.step :=
  Prod.ext_iff

theorem runTicks_tri_position (fast slow reserved : Bool) (s : State) :
    (runTicks fast slow reserved s).tri.position = s.tri.position := by
  cases fast <;> cases slow <;> cases reserved <;> rfl

theorem stepIfExpired_tri_position (s : State) : (stepIfExpired s).tri.position = s.tri.position := by
  unfold stepIfExpired
  split
  · exact runTicks_tri_position ..
  · rfl

/-! ### ADVANCE 1 -/

@[simp] theorem elapse_tri (k : Nat) (s : State) : (elapse k s).tri = s.tri := rfl

theorem generatorsCycle_agreeOn_tri (now : Time) (s : State) : AgreeOn .tri (generatorsCycle now s) (triCycle now s) :=
  (generatorsCycle_processed now s).inside .tri (mem_allChannels .tri)

theorem generatorsCycle_tri (now : Time) (s : State) : (generatorsCycle now s).tri = (triCycle now s).tri := by
  obtain ⟨hgenerator, -⟩ := generatorsCycle_agreeOn_tri now s
  exact hgenerator

theorem generatorsCycle_levels_tri (now : Time) (s : State) :
    (generatorsCycle now s).levels.tri = (triCycle now s).levels.tri := by
  obtain ⟨-, hlevel, -⟩ := generatorsCycle_agreeOn_tri now s
  exact BitVec.eq_of_toNat_eq hlevel

/-- R172: a cycle in which the divider does not expire takes no sequencer step. -/
theorem cycle_of_running {s : State} (hruns : s.seqDiv.toNat ≠ 1) :
    cycle s = elapse 1 (generatorsCycle s.frameTime s) := by
  have hkept := (generatorsCycle_agreeOnRest s.frameTime s).seqDiv_eq
  have hdiv : (elapse 1 (generatorsCycle s.frameTime s)).seqDiv ≠ 0 := by
    unfold elapse
    rw [← hkept]
    bv_omega
  rw [cycle_eq, stepIfExpired_of_running hdiv]

/-- R149: a master cycle shows of the triangle what its own cycle makes of it. -/
theorem TriShows.of_triCycle {s : State} {timer level : Nat} {step : BitVec 5} {events : List LevelEvent}
    (h : TriShows (triCycle s.frameTime s) timer step level events) : TriShows (cycle s) timer step level events := by
  obtain ⟨-, -, hevents⟩ := generatorsCycle_agreeOn_tri s.frameTime s
  have hposition : (cycle s).tri.position = (triCycle s.frameTime s).tri.position := by
    rw [cycle_eq, stepIfExpired_tri_position, elapse_tri, generatorsCycle_tri]
  obtain ⟨htimer, hstep⟩ := (Triangle.position_eq_iff _ _).mp hposition
  refine ⟨?_, hstep.trans h.step, ?_, ?_⟩
  · rw [htimer, h.timer]
  · rw [cycle_eq, stepIfExpired_levels, elapse_levels, generatorsCycle_levels_tri, h.level]
  · rw [cycle_eq, stepIfExpired_events, elapse_events, hevents, h.events]

/-- R172: in a cycle with no sequencer step the triangle moves its timer and its step alone. -/
theorem cycle_tri_of_running {s : State} (hruns : s.seqDiv.toNat ≠ 1) :
    (cycle s).tri = { s.tri with timer := (cycle s).tri.timer, step := (cycle s).tri.step } := by
  refine Triangle.eq_of_eraseTimer_eq ?_
  rw [cycle_of_running hruns, elapse_tri, generatorsCycle_tri, triCycle_eraseTimer]

/-- Settles O32: what a cycle shows of the generator is what `triCycle` makes of it, case by case of the gates, the
period and the timer. -/
theorem triangleMasterCycle : Obligations.TriangleMasterCycle := by
  intro s
  refine ⟨cycle s, rfl, ?_⟩
  intro g active old still presents level
  have hactive : g.running = true ↔ active := g.running_iff
  have hlevel : (triLevel g.step).toNat = level := toNat_triLevel g.step
  have still_of_shows {timer : Nat}
      (h : TriShows (cycle s) timer g.step s.levels.tri.toNat (eventsOf .tri s.events)) : still timer :=
    ⟨h.timer, h.step, BitVec.eq_of_toNat_eq h.level, h.events⟩
  refine ⟨fun hidle => still_of_shows ?_, fun hrun hperiod => ?_, fun hrun hperiod htimer => ?_,
    fun hrun hperiod htimer => ?_, fun hrun hperiod htimer => still_of_shows ?_, cycle_tri_of_running⟩
  · refine TriShows.of_triCycle ?_
    rw [triCycle_of_inactive s.frameTime (mt hactive.mp hidle)]
    exact TriShows.refl s
  · have hshows := (triCycle_shows_of_ultrasonic s.frameTime (hactive.mpr hrun) hperiod).of_triCycle
    exact ⟨BitVec.eq_of_toNat_eq hshows.timer, hshows.step, hshows.level, hshows.events⟩
  · have hshows := (triCycle_shows_of_due s.frameTime (hactive.mpr hrun) hperiod htimer).of_triCycle
    rw [hlevel] at hshows
    exact ⟨hshows.timer, hshows.step, hshows.level, hshows.events⟩
  · have hshows := (triCycle_shows_of_expiring s.frameTime (hactive.mpr hrun) hperiod htimer).of_triCycle
    rw [hlevel] at hshows
    exact ⟨hshows.timer, hshows.step, hshows.level, hshows.events⟩
  · exact (triCycle_shows_of_counting s.frameTime (hactive.mpr hrun) hperiod htimer).of_triCycle

end Sys2Proof
end

/-! ## The noise registers (spec/30_encoding.md R117, R119, R120; spec/44_noise.md R251, R253, R254) -/

section
namespace Sys2Proof.Machine

/-- Bits 3:0 (R119, R121). -/
theorem toNat_periodIndexOf (data : Byte) : (periodIndexOf data).toNat = data.toNat % 2 ^ 4 := by
  rw [periodIndexOf, BitVec.extractLsb'_toNat, Nat.shiftRight_zero]

/-- R83: the `NOISE_PERIOD` row of a domain as a list of numbers. -/
theorem noisePeriodRow_getElem? (d : Domain) (i : BitVec 4) :
    ((chip.params d).noisePeriod.toList.map BitVec.toNat)[i.toNat]? = some (noisePeriod d i).toNat := by
  revert i
  cases d <;> decide

/-- R119: the period latched is the row's entry at data bits 3:0. -/
theorem noisePeriodRow_getElem?_periodIndexOf (d : Domain) (data : Byte) :
    ((chip.params d).noisePeriod.toList.map BitVec.toNat)[data.toNat % 2 ^ 4]?
      = some (noisePeriod d (periodIndexOf data)).toNat := by
  rw [← toNat_periodIndexOf]
  exact noisePeriodRow_getElem? d _

/-- Settles O18: the commands put `Noise.write0`, `Noise.write2` and `Noise.write3` of the data in place of the
generator's fields; flags and numbers are read off the data, the period in the row of the present domain. -/
theorem noiseWrites : Obligations.NoiseWrites := by
  intro data s
  refine ⟨s.noi.write0 data, s.noi.write2 s.domain data, s.noi.write3 data, rfl, rfl, flagBit_eq_true_iff data 5,
    flagBit_eq_true_iff data 4, toNat_volOf data, rfl, rfl, flagBit_seven_eq_true_iff data, ?_, rfl, rfl,
    lengthTable_getElem?_lengthLoad data, Bool.or_eq_true_iff⟩
  generalize s.domain = d
  cases d
  · exact noisePeriodRow_getElem?_periodIndexOf .ntsc data
  · exact noisePeriodRow_getElem?_periodIndexOf .pal data

end Sys2Proof.Machine
end

/-! ## The noise shift register (spec/44_noise.md R259, R262)

With `f` the shift and `t` its tap (1 in mode 0, 6 in mode 1), fifteen shifts are `f^15 = 1 + f^t` over the field of two
elements: bit `i` of the register is the bit that leaves it `i` shifts later, so the bits that come in are the
exclusive or of the register and of the register `t` shifts on. That `f` is injective and
fixes only 0, and both periods, follow. -/

section
namespace Sys2Proof.Machine
open Function

/-! ### The bits of one shift and of the next fourteen -/

/-- The register bit that the feedback adds to bit 0 (R259). -/
def lfsrTap (mode : Bool) : Nat := if mode then 6 else 1

theorem lfsrTap_lt (mode : Bool) : lfsrTap mode < 15 := by cases mode <;> decide

theorem lfsrFeedback_eq_xor (mode : Bool) (r : BitVec 15) :
    lfsrFeedback mode r = (r.getLsbD 0 ^^ r.getLsbD (lfsrTap mode)) := by
  cases mode <;> rfl

/-- R259: the feedback bit comes in at bit 14, every other bit from the bit above it. -/
theorem getLsbD_lfsrNext (mode : Bool) (r : BitVec 15) {i : Nat} (hi : i < 15) : (lfsrNext mode r).getLsbD i =
    if i = 14 then r.getLsbD 0 ^^ r.getLsbD (lfsrTap mode) else r.getLsbD (i + 1) := by
  rw [← lfsrFeedback_eq_xor, lfsrNext]
  split
  case isTrue hlast =>
    subst hlast
    simp
  case isFalse hinner =>
    have hbelow : i < 14 := by omega
    simp [hbelow, Nat.add_comm 1 i]

/-- A bit moves down by one place with every shift. -/
theorem getLsbD_zero_iterate_lfsrNext (mode : Bool) {i : Nat} (hi : i < 15) (r : BitVec 15) :
    ((lfsrNext mode)^[i] r).getLsbD 0 = r.getLsbD i := by
  induction i generalizing r with
  | zero => rfl
  | succ i ih => rw [iterate_succ_apply, ih (by omega), getLsbD_lfsrNext mode r (by omega), if_neg (by omega)]

/-- Fifteen shifts bring the first feedback bit to bit 0. -/
theorem getLsbD_zero_iterate_lfsrNext_fifteen (mode : Bool) (r : BitVec 15) :
    ((lfsrNext mode)^[15] r).getLsbD 0 = (r.getLsbD 0 ^^ r.getLsbD (lfsrTap mode)) := by
  rw [iterate_succ_apply, getLsbD_zero_iterate_lfsrNext mode (by decide), getLsbD_lfsrNext mode r (by decide),
    if_pos rfl]

/-- `f^15 = 1 + f^t`: the recurrence of the register's bits, as an equation of registers. -/
theorem iterate_lfsrNext_fifteen (mode : Bool) (r : BitVec 15) :
    (lfsrNext mode)^[15] r = r ^^^ (lfsrNext mode)^[lfsrTap mode] r := by
  refine BitVec.eq_of_getLsbD_eq fun i hi => ?_
  have hcommute (n : Nat) : (lfsrNext mode)^[i] ((lfsrNext mode)^[n] r) = (lfsrNext mode)^[n] ((lfsrNext mode)^[i] r) :=
    (Function.Commute.iterate_iterate_self (lfsrNext mode) i n).eq r
  calc ((lfsrNext mode)^[15] r).getLsbD i
      = ((lfsrNext mode)^[15] ((lfsrNext mode)^[i] r)).getLsbD 0 := by
        rw [← getLsbD_zero_iterate_lfsrNext mode hi, hcommute]
    _ = (((lfsrNext mode)^[i] r).getLsbD 0 ^^ ((lfsrNext mode)^[lfsrTap mode] ((lfsrNext mode)^[i] r)).getLsbD 0) := by
        rw [getLsbD_zero_iterate_lfsrNext_fifteen, getLsbD_zero_iterate_lfsrNext mode (lfsrTap_lt mode)]
    _ = (r ^^^ (lfsrNext mode)^[lfsrTap mode] r).getLsbD i := by
        rw [BitVec.getLsbD_xor, ← hcommute, getLsbD_zero_iterate_lfsrNext mode hi,
          getLsbD_zero_iterate_lfsrNext mode hi]

/-! ### The shift is linear, injective, and fixes only 0 -/

theorem lfsrNext_zero (mode : Bool) : lfsrNext mode 0 = 0 := by cases mode <;> decide

theorem lfsrNext_eq_zero_iff (mode : Bool) (r : BitVec 15) : lfsrNext mode r = 0 ↔ r = 0 :=
  ⟨not_imp_not.mp (lfsrNext_ne_zero mode), fun h => h ▸ lfsrNext_zero mode⟩

theorem lfsrNext_xor (mode : Bool) : Semiconj₂ (lfsrNext mode) (· ^^^ ·) (· ^^^ ·) := by
  intro a b
  refine BitVec.eq_of_getLsbD_eq fun i hi => ?_
  simp only [BitVec.getLsbD_xor, getLsbD_lfsrNext mode _ hi]
  split
  · simp only [Bool.xor_assoc, Bool.xor_left_comm]
  · rfl

theorem iterate_lfsrNext_xor (mode : Bool) (n : Nat) (a b : BitVec 15) :
    (lfsrNext mode)^[n] (a ^^^ b) = (lfsrNext mode)^[n] a ^^^ (lfsrNext mode)^[n] b :=
  (lfsrNext_xor mode).iterate n a b

/-- The difference of two registers with the same shift is one that the shift empties. -/
theorem lfsrNext_injective (mode : Bool) : Injective (lfsrNext mode) := by
  intro a b h
  have hdiff : lfsrNext mode (a ^^^ b) = 0 := (lfsrNext_xor mode a b).trans (xor_eq_zero_iff.mpr h)
  rwa [lfsrNext_eq_zero_iff, xor_eq_zero_iff] at hdiff

/-- A register that is its own shift is `r ^^^ r` after fifteen. -/
theorem lfsrNext_eq_self_iff (mode : Bool) (r : BitVec 15) : lfsrNext mode r = r ↔ r = 0 := by
  refine ⟨fun hfixed => ?_, fun hzero => hzero ▸ lfsrNext_zero mode⟩
  have hfifteen := iterate_lfsrNext_fifteen mode r
  rwa [iterate_fixed hfixed, iterate_fixed hfixed, BitVec.xor_self] at hfifteen

/-- Settles O35: the shift is linear with only 0 in its kernel, and its recurrence leaves no fixed point but 0. -/
theorem noiseShiftIsInjective : Obligations.NoiseShiftIsInjective := fun mode a _ =>
  ⟨fun h => lfsrNext_injective mode h, lfsrNext_eq_zero_iff mode a, lfsrNext_eq_self_iff mode a⟩

/-! ### Powers of two of the shift

Squaring is additive over the field of two elements: an equation `f^n = 1 + f^t` doubles. In mode 0, where
`f^15 = 1 + f`, the powers `f^(2^k)` so follow the recurrence of the polynomial `z^4 + z + 1`, and `f^(2^15)` is `f`. -/

theorem xor_xor_cancel_inner {n : Nat} (a b c : BitVec n) : (a ^^^ b) ^^^ (b ^^^ c) = a ^^^ c := by
  rw [BitVec.xor_assoc, xor_cancel_left]

theorem iterate_lfsrNext_two_mul {mode : Bool} {n t : Nat}
    (h : ∀ r, (lfsrNext mode)^[n] r = r ^^^ (lfsrNext mode)^[t] r) (r : BitVec 15) :
    (lfsrNext mode)^[2 * n] r = r ^^^ (lfsrNext mode)^[2 * t] r := by
  rw [Nat.two_mul, Nat.two_mul, iterate_add_apply, iterate_add_apply, h, h r, iterate_lfsrNext_xor,
    xor_xor_cancel_inner]

theorem iterate_lfsrNext_false_fifteen_mul_two_pow (k : Nat) (r : BitVec 15) :
    (lfsrNext false)^[15 * 2 ^ k] r = r ^^^ (lfsrNext false)^[2 ^ k] r := by
  induction k generalizing r with
  | zero => exact iterate_lfsrNext_fifteen false r
  | succ k ih => simpa only [Nat.pow_succ', Nat.mul_left_comm] using iterate_lfsrNext_two_mul ih r

/-- `f^(2^(k+4)) = f^(2^k) + f^(2^(k+1))` in mode 0. -/
theorem iterate_lfsrNext_false_two_pow_add_four (k : Nat) (r : BitVec 15) :
    (lfsrNext false)^[2 ^ (k + 4)] r = (lfsrNext false)^[2 ^ k] r ^^^ (lfsrNext false)^[2 ^ (k + 1)] r := by
  have hsplit : 2 ^ (k + 4) = 15 * 2 ^ k + 2 ^ k := by rw [Nat.pow_add]; omega
  rw [hsplit, iterate_add_apply, iterate_lfsrNext_false_fifteen_mul_two_pow, ← iterate_add_apply, ← Nat.two_mul,
    ← Nat.pow_succ']

/-- `f^(2^(k+8)) = f^(2^k) + f^(2^(k+2))` in mode 0. -/
theorem iterate_lfsrNext_false_two_pow_add_eight (k : Nat) (r : BitVec 15) :
    (lfsrNext false)^[2 ^ (k + 8)] r = (lfsrNext false)^[2 ^ k] r ^^^ (lfsrNext false)^[2 ^ (k + 2)] r := by
  rw [iterate_lfsrNext_false_two_pow_add_four (k + 4), iterate_lfsrNext_false_two_pow_add_four k,
    iterate_lfsrNext_false_two_pow_add_four (k + 1), xor_xor_cancel_inner]

theorem iterate_lfsrNext_false_two_pow_fifteen (r : BitVec 15) : (lfsrNext false)^[2 ^ 15] r = lfsrNext false r :=
  calc (lfsrNext false)^[2 ^ 15] r
      = ((lfsrNext false)^[2 ^ 4] r ^^^ (lfsrNext false)^[2 ^ 3] r) ^^^
          ((lfsrNext false)^[2 ^ 3] r ^^^ (lfsrNext false)^[2 ^ 1] r) := by
        rw [iterate_lfsrNext_false_two_pow_add_eight 7, iterate_lfsrNext_false_two_pow_add_four 3,
          iterate_lfsrNext_false_two_pow_add_eight 1, BitVec.xor_comm (_ ^[2 ^ 3] r), BitVec.xor_comm (_ ^[2 ^ 1] r)]
    _ = (lfsrNext false)^[2 ^ 0] r := by
        rw [xor_xor_cancel_inner, iterate_lfsrNext_false_two_pow_add_four 0, xor_cancel_right]

/-! ### The two periods -/

/-- In mode 0 every register comes back after 32767 shifts. -/
theorem isPeriodicPt_lfsrNext_false (r : BitVec 15) : IsPeriodicPt (lfsrNext false) 32767 r :=
  lfsrNext_injective false <| by
    rw [← iterate_succ_apply' (lfsrNext false)]
    exact iterate_lfsrNext_false_two_pow_fifteen r

/-- A period is the smallest one when no prime divisor can be taken out of it. -/
theorem minimalPeriod_eq_of_forall_prime_dvd {α : Type} {f : α → α} {x : α} {n : Nat}
    (hperiod : IsPeriodicPt f n x) (hprime : ∀ p, p.Prime → p ∣ n → ¬ IsPeriodicPt f (n / p) x) :
    minimalPeriod f x = n := by
  obtain ⟨c, hc⟩ := hperiod.minimalPeriod_dvd
  by_contra hne
  obtain ⟨p, hp, q, rfl⟩ := Nat.exists_prime_and_dvd (n := c) (by rintro rfl; omega)
  have hquotient : n / p = minimalPeriod f x * q :=
    Nat.div_eq_of_eq_mul_right hp.pos (hc.trans (Nat.mul_left_comm ..))
  refine hprime p hp ⟨minimalPeriod f x * q, hc.trans (Nat.mul_left_comm ..)⟩ ?_
  rw [hquotient]
  exact (isPeriodicPt_minimalPeriod f x).mul_const q

/-- In mode 1 the register 0x0001 comes back after 93 shifts. -/
theorem isPeriodicPt_lfsrNext_true : IsPeriodicPt (lfsrNext true) 93 0x0001#15 := by
  have hsplit : 93 = 2 * (2 * 15) + (2 * 15 + 3) := rfl
  have hdouble := iterate_lfsrNext_two_mul (iterate_lfsrNext_fifteen true)
  have hquadruple := iterate_lfsrNext_two_mul hdouble
  rw [IsPeriodicPt, IsFixedPt, hsplit, iterate_add_apply, iterate_add_apply, hquadruple, hdouble]
  decide

/-- 4681 shifts, 32767 / 7, are no period in mode 0. -/
theorem iterate_lfsrNext_false_ne_of_4681 : (lfsrNext false)^[4681] 0x0001#15 ≠ 0x0001#15 := by
  have hsplit : 4681 = 2 ^ 12 + (2 ^ 9 + (2 ^ 6 + 9)) := rfl
  rw [hsplit, iterate_add_apply, iterate_add_apply, iterate_add_apply, iterate_lfsrNext_false_two_pow_add_eight 4,
    iterate_lfsrNext_false_two_pow_add_eight 1]
  simp only [iterate_lfsrNext_false_two_pow_add_four 2]
  decide

/-- 1057 shifts, 32767 / 31, are no period in mode 0. -/
theorem iterate_lfsrNext_false_ne_of_1057 : (lfsrNext false)^[1057] 0x0001#15 ≠ 0x0001#15 := by
  have hsplit : 1057 = 2 ^ 10 + (2 ^ 5 + 1) := rfl
  rw [hsplit, iterate_add_apply, iterate_lfsrNext_false_two_pow_add_eight 2]
  decide

/-- 217 shifts, 32767 / 151, are no period in mode 0. -/
theorem iterate_lfsrNext_false_ne_of_217 : (lfsrNext false)^[217] 0x0001#15 ≠ 0x0001#15 := by
  have hsplit : 217 = 2 ^ 7 + (2 ^ 6 + 25) := rfl
  rw [hsplit, iterate_add_apply, iterate_add_apply, iterate_lfsrNext_false_two_pow_add_four 3,
    iterate_lfsrNext_false_two_pow_add_four 2]
  decide

theorem minimalPeriod_lfsrNext_false : minimalPeriod (lfsrNext false) 0x0001#15 = 32767 := by
  refine minimalPeriod_eq_of_forall_prime_dvd (isPeriodicPt_lfsrNext_false _) fun p hp hdvd => ?_
  have hcases : p = 7 ∨ p = 31 ∨ p = 151 := by
    rwa [show 32767 = 7 * (31 * 151) from rfl, hp.dvd_mul, hp.dvd_mul, Nat.prime_dvd_prime_iff_eq hp (by norm_num),
      Nat.prime_dvd_prime_iff_eq hp (by norm_num), Nat.prime_dvd_prime_iff_eq hp (by norm_num)] at hdvd
  obtain rfl | rfl | rfl := hcases
  · exact iterate_lfsrNext_false_ne_of_4681
  · exact iterate_lfsrNext_false_ne_of_1057
  · exact iterate_lfsrNext_false_ne_of_217

theorem minimalPeriod_lfsrNext_true : minimalPeriod (lfsrNext true) 0x0001#15 = 93 := by
  refine minimalPeriod_eq_of_forall_prime_dvd isPeriodicPt_lfsrNext_true fun p hp hdvd => ?_
  have hcases : p = 3 ∨ p = 31 := by
    rwa [show 93 = 3 * 31 from rfl, hp.dvd_mul, Nat.prime_dvd_prime_iff_eq hp (by norm_num),
      Nat.prime_dvd_prime_iff_eq hp (by norm_num)] at hdvd
  obtain rfl | rfl := hcases <;> decide

/-- A minimal period states that the sequence comes back, and that it does not do so earlier. -/
theorem first_return_of_minimalPeriod {α : Type} {f : α → α} {x : α} {n : Nat} (h : minimalPeriod f x = n) :
    f^[n] x = x ∧ ∀ k, 0 < k → k < n → f^[k] x ≠ x := by
  subst h
  exact ⟨iterate_minimalPeriod, fun k hpos hlt => not_isPeriodicPt_of_pos_of_lt_minimalPeriod hpos.ne' hlt⟩

/-- Settles O36: both sequences return first at their minimal period. -/
theorem noiseSequencePeriods : Obligations.NoiseSequencePeriods := by
  obtain ⟨hreturn₀, hfirst₀⟩ := first_return_of_minimalPeriod minimalPeriod_lfsrNext_false
  obtain ⟨hreturn₁, hfirst₁⟩ := first_return_of_minimalPeriod minimalPeriod_lfsrNext_true
  exact ⟨hreturn₀, hfirst₀, hreturn₁, hfirst₁⟩

end Sys2Proof.Machine
end

/-! ## The sample unit's registers (spec/30_encoding.md R121, R122; spec/45_dpcm.md R271 to R274) -/

section
namespace Sys2Proof.Machine

/-- Bits 6:0 (R122). -/
theorem toNat_deltaOf (data : Byte) : (deltaOf data).toNat = data.toNat % 2 ^ 7 := by
  rw [deltaOf, BitVec.extractLsb'_toNat, Nat.shiftRight_zero]

/-- R84: the `DMC_PERIOD` row of a domain as a list of numbers. -/
theorem dmcPeriodRow_getElem? (d : Domain) (i : BitVec 4) :
    ((chip.params d).dmcPeriod.toList.map BitVec.toNat)[i.toNat]? = some (dmcPeriod d i).toNat := by
  revert i
  cases d <;> decide

/-- R121: the period latched is the row's entry at data bits 3:0. -/
theorem dmcPeriodRow_getElem?_periodIndexOf (d : Domain) (data : Byte) :
    ((chip.params d).dmcPeriod.toList.map BitVec.toNat)[data.toNat % 2 ^ 4]?
      = some (dmcPeriod d (periodIndexOf data)).toNat := by
  rw [← toNat_periodIndexOf]
  exact dmcPeriodRow_getElem? d _

/-- R301: a SetLevel call of the sample unit, as one update of the level register and the event record. -/
theorem setLevel_dmc_eq (v : BitVec 7) (t : Time) (s : State) : setLevel .dmc v.toNat t s = { s with
    levels := { s.levels with dmc := v }
    events := s.events ++ (if v = s.levels.dmc then []
                else [{ ch := .dmc, time := t, delta := (v.toNat : Int) - s.levels.dmc.toNat }]) } := by
  by_cases hsame : v = s.levels.dmc
  · subst hsame
    simp [setLevel, Levels.get]
  · simp [setLevel, Levels.get, Levels.set, State.emit, BitVec.toNat_inj, hsame]

/-- Settles O19: the commands put `Dmc.write0` to `Dmc.write3` of the data in place of the unit's fields; flags and
numbers are read off the data, the period in the row of the present domain, and the second write calls SetLevel. -/
theorem sampleUnitWrites : Obligations.SampleUnitWrites := by
  intro data s
  refine ⟨s.dmc.write0 s.domain data, deltaOf data, rfl, rfl, flagBit_seven_eq_true_iff data,
    flagBit_eq_true_iff data 6, ?_, ?_, toNat_deltaOf data,
    congrArg Host.Outcome.next (setLevel_dmc_eq _ s.frameTime _), rfl, rfl⟩
  · rw [← flagBit_seven_eq_true_iff]
    exact Bool.and_eq_true_iff
  · generalize s.domain = d
    cases d
    · exact dmcPeriodRow_getElem?_periodIndexOf .ntsc data
    · exact dmcPeriodRow_getElem?_periodIndexOf .pal data

end Sys2Proof.Machine
end

/-! ## One master cycle of the sample unit (spec/20_memory.md R76; spec/45_dpcm.md R278, R280 to R283;
spec/46_mixer.md R301)

ADVANCE 1 shows of the sample unit what `dmcCycle` makes of it: the other generators and the sequencer do not touch it.
A fire is a function of the unit's fields and the byte under its cursor, `Dmc.fire`; each of its parts is an equation on
numbers. -/

section
namespace Sys2Proof
open Machine

/-! ### The reader on numbers (R278, R281) -/

/-- R75: the bus address of the cursor as a number. -/
theorem Machine.toNat_sampleAddr (cursor : BitVec 15) : (sampleAddr cursor).toNat = 0x8000 + cursor.toNat := by
  have hcursor := cursor.isLt
  have hwidth : (cursor.setWidth addrBits).toNat = cursor.toNat := BitVec.toNat_setWidth_of_le (by decide)
  have hbase : (0x8000 : Addr).toNat = 2 ^ 15 * 1 := rfl
  rw [sampleAddr, BitVec.toNat_or, hwidth, hbase, ← Nat.two_pow_add_eq_or_of_lt hcursor]

theorem Machine.sampleAddr_eq (cursor : BitVec 15) : sampleAddr cursor = BitVec.ofNat 16 (0x8000 + cursor.toNat) := by
  rw [← toNat_sampleAddr, BitVec.ofNat_toNat]
  exact (BitVec.setWidth_eq _).symm

/-- The unit after the reader of a fire, `b` the byte under the cursor (R281). -/
def Machine.Dmc.afterReader (g : Dmc) (b : Byte) : Dmc := if g.wantsByte then g.takeByte b else g

theorem Machine.Dmc.wantsByte_iff (g : Dmc) : g.wantsByte = true ↔ g.filled = false ∧ 0 < g.bytes.toNat := by
  simp only [Dmc.wantsByte, Bool.and_eq_true, Bool.not_eq_true', decide_eq_true_eq, ne_zero_iff_toNat_pos]

/-- R278: a reload on numbers. -/
theorem Machine.Dmc.reload_eq (g : Dmc) : g.reload = { g with
    curAddr := BitVec.ofNat 15 (0x4000 + 64 * g.addrReg.toNat)
    bytes := BitVec.ofNat 12 (16 * g.lenReg.toNat + 1) } := by
  rw [← toNat_sampleCursor, ← toNat_sampleLength, BitVec.ofNat_toNat, BitVec.ofNat_toNat, BitVec.setWidth_eq,
    BitVec.setWidth_eq, Dmc.reload]

/-- R281: bytes are left after this one. -/
theorem Machine.Dmc.takeByte_of_more {g : Dmc} (h : 1 < g.bytes.toNat) (b : Byte) : g.takeByte b =
    { g with buffer := b, filled := true, curAddr := g.curAddr + 1, bytes := g.bytes - 1 } := by
  have hleft : g.bytes - 1 ≠ 0 := by bv_omega
  exact if_neg hleft

/-- R281: this byte is the last. -/
theorem Machine.Dmc.takeByte_of_last {g : Dmc} (h : g.bytes.toNat = 1) (b : Byte) : g.takeByte b =
    ({ g with buffer := b, filled := true, curAddr := g.curAddr + 1, bytes := 0 } : Dmc).sampleEnd := by
  have hdone : g.bytes - 1 = 0 := by bv_omega
  rw [← hdone]
  exact if_pos hdone

/-- R281: what the reader of a fire leaves, on numbers. -/
theorem Machine.Dmc.afterReader_eq (g : Dmc) (b : Byte) : g.afterReader b =
    if g.filled = false ∧ 1 < g.bytes.toNat then
      { g with buffer := b, filled := true, curAddr := g.curAddr + 1, bytes := g.bytes - 1 }
    else if g.filled = false ∧ g.bytes.toNat = 1 then
      if g.loop then
        { g with buffer := b, filled := true, curAddr := BitVec.ofNat 15 (0x4000 + 64 * g.addrReg.toNat),
                 bytes := BitVec.ofNat 12 (16 * g.lenReg.toNat + 1) }
      else
        { g with buffer := b, filled := true, curAddr := g.curAddr + 1, bytes := 0, irq := g.irq || g.irqEn }
    else g := by
  unfold Dmc.afterReader
  by_cases hwants : g.wantsByte = true
  · obtain ⟨hempty, hbytes⟩ := g.wantsByte_iff.mp hwants
    rw [if_pos hwants]
    by_cases hmore : 1 < g.bytes.toNat
    · rw [if_pos ⟨hempty, hmore⟩, Dmc.takeByte_of_more hmore]
    · have hlast : g.bytes.toNat = 1 := by omega
      rw [if_neg fun h => hmore h.2, if_pos ⟨hempty, hlast⟩, Dmc.takeByte_of_last hlast, Dmc.sampleEnd, Dmc.reload_eq]
  · rw [if_neg hwants, if_neg, if_neg]
    · exact fun ⟨hempty, hlast⟩ => hwants (g.wantsByte_iff.mpr ⟨hempty, by omega⟩)
    · exact fun ⟨hempty, hmore⟩ => hwants (g.wantsByte_iff.mpr ⟨hempty, by omega⟩)

/-! ### The output unit on numbers (R282) -/

/-- R282: the start of an output cycle on numbers. -/
theorem Machine.Dmc.startOutput_eq (g : Dmc) : g.startOutput =
    if g.bitDiv.toNat = 0 then
      if g.filled then { g with bitDiv := 8, shift := g.buffer, filled := false, silence := false }
      else { g with bitDiv := 8, silence := true }
    else g :=
  if_congr BitVec.toNat_inj.symm rfl rfl

/-- R282: the delta counter on numbers; a step that would leave 0 to 127 is dropped. -/
theorem Machine.Dmc.toNat_nextDelta (g : Dmc) : g.nextDelta.toNat =
    if g.silence then g.delta.toNat
    else if g.shift.toNat % 2 = 1 then (if g.delta.toNat < 126 then g.delta.toNat + 2 else g.delta.toNat)
    else (if 1 < g.delta.toNat then g.delta.toNat - 2 else g.delta.toNat) := by
  have hbit : g.shift.getLsbD 0 = true ↔ g.shift.toNat % 2 = 1 := by
    simpa [flagBit] using flagBit_eq_true_iff g.shift 0
  have hup (h : g.delta.toNat < 126) : (g.delta + 2).toNat = g.delta.toNat + 2 := by bv_omega
  have hdown (h : 1 < g.delta.toNat) : (g.delta - 2).toNat = g.delta.toNat - 2 := by bv_omega
  simp only [Dmc.nextDelta, hbit]
  split
  · rfl
  · split
    · split
      · exact hup ‹_›
      · rfl
    · split
      · exact hdown ‹_›
      · rfl

/-- R282: one output bit on numbers. -/
theorem Machine.Dmc.outputBit_eq (g : Dmc) : g.outputBit = { g.startOutput with
    delta := BitVec.ofNat 7 g.startOutput.nextDelta.toNat, shift := BitVec.ofNat 8 (g.startOutput.shift.toNat / 2),
    bitDiv := g.startOutput.bitDiv - 1 } := by
  have hshift (x : BitVec 8) : x >>> 1 = BitVec.ofNat 8 (x.toNat / 2) := by bv_omega
  rw [← hshift, BitVec.ofNat_toNat, BitVec.setWidth_eq, Dmc.outputBit]

theorem Machine.Dmc.delta_outputBit (g : Dmc) : g.outputBit.delta = g.startOutput.nextDelta := rfl

/-! ### A fire (R283) -/

/-- The unit after a fire, before the reload of the timer: reader, then output unit (R283). -/
def Machine.Dmc.fire (g : Dmc) (b : Byte) : Dmc := (g.afterReader b).outputBit

/-- The fetch of a fire at time `t`, if it makes one (R281). -/
def Machine.Dmc.fetchAt (g : Dmc) (t : Time) : List SampleFetch :=
  if g.wantsByte then [{ time := t, addr := sampleAddr g.curAddr }] else []

theorem Machine.Dmc.fetchAt_of_wantsByte {g : Dmc} (h : g.wantsByte = true) (t : Time) :
    g.fetchAt t = [{ time := t, addr := BitVec.ofNat 16 (0x8000 + g.curAddr.toNat) }] := by
  rw [Dmc.fetchAt, if_pos h, sampleAddr_eq]

theorem Machine.Dmc.fetchAt_of_not_wantsByte {g : Dmc} (h : ¬ g.wantsByte = true) (t : Time) : g.fetchAt t = [] :=
  if_neg h

/-- The byte a fetch under the cursor gets (R76). -/
def Machine.State.cursorByte (s : State) : Byte := sampleByte s (sampleAddr s.dmc.curAddr)

/-- R76: a loaded byte is the one fetched. -/
theorem Machine.State.cursorByte_of_loaded {s : State} {v : Byte}
    (h : s.store.read (0x8000 + s.dmc.curAddr.toNat) = some v) : s.cursorByte = v := by
  rw [State.cursorByte, sampleByte, toNat_sampleAddr, h]

section setTimer
variable (g : Dmc) (n : BitVec 9)

theorem Machine.Dmc.afterReader_setTimer (b : Byte) :
    ({ g with timer := n } : Dmc).afterReader b = { g.afterReader b with timer := n } := by
  simp only [Dmc.afterReader_eq]
  split_ifs <;> rfl

theorem Machine.Dmc.startOutput_setTimer :
    ({ g with timer := n } : Dmc).startOutput = { g.startOutput with timer := n } := by
  unfold Dmc.startOutput
  split_ifs <;> rfl

/-- R283: a fire neither reads nor writes the timer. -/
theorem Machine.Dmc.fire_setTimer (b : Byte) : ({ g with timer := n } : Dmc).fire b = { g.fire b with timer := n } := by
  unfold Dmc.fire Dmc.outputBit
  rw [Dmc.afterReader_setTimer, Dmc.startOutput_setTimer]
  rfl

end setTimer

theorem Machine.Dmc.afterReader_period (g : Dmc) (b : Byte) : (g.afterReader b).period = g.period := by
  rw [Dmc.afterReader_eq]
  split_ifs <;> rfl

theorem Machine.Dmc.startOutput_period (g : Dmc) : g.startOutput.period = g.period := by
  unfold Dmc.startOutput
  split_ifs <;> rfl

/-- R283: a fire leaves the period latch alone. -/
theorem Machine.Dmc.fire_period (g : Dmc) (b : Byte) : (g.fire b).period = g.period :=
  (g.afterReader b).startOutput_period.trans (g.afterReader_period b)

/-- What state `t` shows of the sample unit: its fields, its level register, its fetches and all its level events. -/
structure DmcShows (t : State) (g : Dmc) (level : BitVec 7) (fetches : List SampleFetch) (events : List LevelEvent) :
    Prop where
  dmc     : t.dmc = g
  level   : t.levels.dmc = level
  fetches : t.fetches = fetches
  events  : eventsOf .dmc t.events = events

/-- From `s` to `t` the unit fires once, stamped `stamp`; its timer comes to `timer`. -/
def DmcFires (stamp : Time) (timer : BitVec 9) (s t : State) : Prop :=
  DmcShows t { s.dmc.fire s.cursorByte with timer := timer } (s.dmc.fire s.cursorByte).delta
    (s.fetches ++ s.dmc.fetchAt stamp)
    (eventsOf .dmc s.events ++ levelChange .dmc (s.dmc.fire s.cursorByte).delta.toNat stamp s)

/-- Setting the timer shows in the timer alone. -/
theorem DmcFires.setTimer {stamp : Time} {k : BitVec 9} {s t : State} (h : DmcFires stamp k s t) (n : BitVec 9) :
    DmcFires stamp n s { t with dmc := { t.dmc with timer := n } } :=
  ⟨congrArg (fun g : Dmc => { g with timer := n }) h.dmc, h.level, h.fetches, h.events⟩

/-- A fire does not show what the timer was before it. -/
theorem DmcFires.of_setTimer {stamp : Time} {k n : BitVec 9} {s t : State}
    (h : DmcFires stamp k { s with dmc := { s.dmc with timer := n } } t) : DmcFires stamp k s t := by
  unfold DmcFires at h
  rw [Dmc.fire_setTimer] at h
  exact h

/-- R281: the reader writes the unit's fields and the fetch record. -/
theorem dmcReader_shows (t : Time) (s : State) : DmcShows (dmcReader t s) (s.dmc.afterReader s.cursorByte) s.levels.dmc
    (s.fetches ++ s.dmc.fetchAt t) (eventsOf .dmc s.events) := by
  unfold dmcReader Dmc.afterReader Dmc.fetchAt
  split
  · exact ⟨rfl, rfl, rfl, rfl⟩
  · exact ⟨rfl, rfl, (List.append_nil _).symm, rfl⟩

/-- R282, R301: the output unit writes the unit's fields and presents the delta counter. -/
theorem dmcOutput_shows (t : Time) (s : State) :
    DmcShows (dmcOutput t s) s.dmc.outputBit s.dmc.outputBit.delta s.fetches
      (eventsOf .dmc s.events ++ levelChange .dmc s.dmc.outputBit.delta.toNat t s) where
  dmc := State.setLevel_dmc ..
  level := BitVec.eq_of_toNat_eq (setLevel_get_same .dmc _ t _ (Nat.le_of_lt_succ s.dmc.outputBit.delta.isLt))
  fetches := State.setLevel_fetches ..
  events := by
    rw [dmcOutput, setLevel_events, eventsOf_append, eventsOf_levelChange_same]
    rfl

/-- R283: reader, then output unit. -/
theorem fireDmc_fires (t : Time) (s : State) : DmcFires t (s.dmc.fire s.cursorByte).timer s (fireDmc t s) := by
  have hread := dmcReader_shows t s
  have hlevel : (dmcReader t s).levels.get .dmc = s.levels.get .dmc := congrArg BitVec.toNat hread.level
  have houtput := dmcOutput_shows t (dmcReader t s)
  rw [hread.dmc, hread.fetches, hread.events, levelChange_congr hlevel] at houtput
  exact houtput

/-- R280: a fire, then the reload of the timer with the period latch. -/
theorem fireDmcReload_fires (t : Time) (s : State) : DmcFires t s.dmc.period s (fireDmcReload t s) := by
  have hfire := fireDmc_fires t s
  have hperiod : (fireDmc t s).dmc.period = s.dmc.period := by
    rw [hfire.dmc]
    exact s.dmc.fire_period s.cursorByte
  rw [← hperiod]
  exact hfire.setTimer _

/-! ### A cycle of the period timer (R280) -/

/-- R84: every sample period is at least 2, so a reloaded timer does not expire in the cycle of its reload. -/
theorem Machine.two_le_dmcPeriod (d : Domain) (i : BitVec 4) : 2 ≤ (dmcPeriod d i).toNat := by
  cases d <;> revert i <;> decide

theorem Machine.Dmc.InRange.two_le_period {g : Dmc} (h : g.InRange) : 2 ≤ g.period.toNat := by
  obtain ⟨-, -, -, d, i, hperiod⟩ := h
  exact hperiod ▸ two_le_dmcPeriod d i

/-- A counter that is not 0, one step down on numbers. -/
theorem sub_one_eq_ofNat {n : Nat} {x : BitVec n} (h : x.toNat ≠ 0) : x - 1 = BitVec.ofNat n (x.toNat - 1) := by
  rw [← toNat_sub_one_of_ne_zero h, BitVec.ofNat_toNat, BitVec.setWidth_eq]

section dmcCycle
variable {s : State} (now : Time)

/-- R280: a due fire is stamped `now`, and the reloaded timer counts in the same cycle. -/
theorem dmcCycle_fires_of_due (hperiod : 2 ≤ s.dmc.period.toNat) (htimer : s.dmc.timer.toNat = 0) :
    DmcFires now (s.dmc.period - 1) s (dmcCycle now s) := by
  have hfire := fireDmcReload_fires now s
  have hreload : (fireDmcReload now s).dmc.timer = s.dmc.period := congrArg Dmc.timer hfire.dmc
  rw [dmcCycle, countCycle_of_due, hreload]
  · exact hfire.setTimer _
  · exact BitVec.eq_of_toNat_eq htimer
  · show (fireDmcReload now s).dmc.timer - 1 ≠ 0
    rw [hreload]
    bv_omega

/-- R280: a timer at 1 expires in this cycle, and the fire is stamped `now + 1`. -/
theorem dmcCycle_fires_of_expiring (htimer : s.dmc.timer.toNat = 1) :
    DmcFires (now + 1) s.dmc.period s (dmcCycle now s) := by
  have hone : s.dmc.timer = 1 := BitVec.eq_of_toNat_eq htimer
  rw [dmcCycle, countCycle_of_expiring]
  · exact (fireDmcReload_fires (now + 1) { s with dmc := { s.dmc with timer := s.dmc.timer - 1 } }).of_setTimer
  · rw [hone]
    decide
  · rw [hone]
    rfl

/-- R280: any other timer only counts. -/
theorem dmcCycle_shows_of_counting (htimer : 2 ≤ s.dmc.timer.toNat) :
    DmcShows (dmcCycle now s) { s.dmc with timer := s.dmc.timer - 1 } s.levels.dmc s.fetches
      (eventsOf .dmc s.events) := by
  rw [dmcCycle, countCycle_of_running]
  · exact ⟨rfl, rfl, rfl, rfl⟩
  · exact (ne_zero_iff_toNat_pos _).mpr (by omega)
  · show s.dmc.timer - 1 ≠ 0
    bv_omega

end dmcCycle

/-! ### ADVANCE 1 -/

@[simp] theorem elapse_dmc (k : Nat) (s : State) : (elapse k s).dmc = s.dmc := rfl

@[simp] theorem elapse_fetches (k : Nat) (s : State) : (elapse k s).fetches = s.fetches := rfl

@[simp] theorem stepIfExpired_dmc (s : State) : (stepIfExpired s).dmc = s.dmc := by
  unfold stepIfExpired
  split
  · exact runTicks_dmc ..
  · rfl

@[simp] theorem stepIfExpired_fetches (s : State) : (stepIfExpired s).fetches = s.fetches := by
  unfold stepIfExpired
  split
  · exact runTicks_fetches ..
  · rfl

theorem generatorsCycle_agreeOn_dmc (now : Time) (s : State) : AgreeOn .dmc (generatorsCycle now s) (dmcCycle now s) :=
  (generatorsCycle_processed now s).inside .dmc (mem_allChannels .dmc)

/-- R149: a master cycle shows of the sample unit what its own cycle makes of it. -/
theorem DmcShows.of_dmcCycle {s : State} {g : Dmc} {level : BitVec 7} {fetches : List SampleFetch}
    {events : List LevelEvent} (h : DmcShows (dmcCycle s.frameTime s) g level fetches events) :
    DmcShows (cycle s) g level fetches events := by
  obtain ⟨⟨hdmc, hfetches, -⟩, hlevel, hevents⟩ := generatorsCycle_agreeOn_dmc s.frameTime s
  rw [cycle_eq]
  refine ⟨?_, ?_, ?_, ?_⟩
  · rw [stepIfExpired_dmc, elapse_dmc, hdmc, h.dmc]
  · rw [stepIfExpired_levels, elapse_levels, ← h.level]
    exact BitVec.eq_of_toNat_eq hlevel
  · rw [stepIfExpired_fetches, elapse_fetches, hfetches, h.fetches]
  · rw [stepIfExpired_events, elapse_events, hevents, h.events]

/-- Settles O34: what a cycle shows of the unit is what `dmcCycle` makes of it, case by case of the timer; a fire is
`Dmc.fire` on the byte under the cursor, whose reader and output unit are put on numbers. -/
theorem sampleUnitMasterCycle : Obligations.SampleUnitMasterCycle := by
  intro s hinv
  refine ⟨cycle s, rfl, ?_⟩
  intro g bus fires
  have fires_of_dmcFires {stamp : Time} {timer : Nat} {k : BitVec 9} (hk : k = BitVec.ofNat 9 timer)
      (h : DmcFires stamp k s (cycle s)) : fires stamp timer := by
    refine ⟨s.cursorByte, fun v => State.cursorByte_of_loaded, ?_⟩
    intro fetches read start delta
    have hfetches : g.wantsByte = true ↔ fetches := g.wantsByte_iff
    have hread : g.afterReader s.cursorByte = read := g.afterReader_eq s.cursorByte
    have hstart : read.startOutput = start := read.startOutput_eq
    have hdelta : start.nextDelta.toNat = delta := start.toNat_nextDelta
    have hunit : s.dmc.fire s.cursorByte = { start with
        delta := BitVec.ofNat 7 delta
        shift := BitVec.ofNat 8 (start.shift.toNat / 2)
        bitDiv := start.bitDiv - 1 } := by
      rw [Dmc.fire, hread, Dmc.outputBit_eq, hstart, hdelta]
    have hlevel : (s.dmc.fire s.cursorByte).delta.toNat = delta := by
      rw [Dmc.fire, Dmc.delta_outputBit, hread, hstart, hdelta]
    obtain ⟨hdmc, hlevels, hfetched, hevents⟩ := h
    rw [hunit, hk] at hdmc
    rw [hlevel] at hevents
    refine ⟨hdmc, fun hfetch => ?_, fun hfetch => ?_, hlevels ▸ hlevel, hevents⟩
    · rw [hfetched, Dmc.fetchAt_of_wantsByte (hfetches.mpr hfetch)]
    · rw [hfetched, Dmc.fetchAt_of_not_wantsByte (mt hfetches.mp hfetch), List.append_nil]
  have hperiod : 2 ≤ g.period.toNat := hinv.dmc.two_le_period
  refine ⟨fun htimer => ?_, fun htimer => ?_, fun htimer => ?_⟩
  · exact fires_of_dmcFires (sub_one_eq_ofNat (by omega)) (dmcCycle_fires_of_due s.frameTime hperiod htimer).of_dmcCycle
  · exact fires_of_dmcFires (BitVec.ofNat_toNat ..).symm (dmcCycle_fires_of_expiring s.frameTime htimer).of_dmcCycle
  · obtain ⟨hdmc, hlevel, hfetches, hevents⟩ := (dmcCycle_shows_of_counting s.frameTime htimer).of_dmcCycle
    rw [sub_one_eq_ofNat (x := s.dmc.timer) (Nat.ne_zero_of_lt htimer)] at hdmc
    exact ⟨hdmc, hlevel, hfetches, hevents⟩

end Sys2Proof
end

/-! ## One master cycle of the noise generator (spec/44_noise.md R258, R259; spec/46_mixer.md R301)

ADVANCE 1 shows of the noise generator what `noiseCycle` makes of it: the other generators do not touch it, and a
sequencer step that ends the cycle moves neither its timer nor its register. -/

section
namespace Sys2Proof
open Machine

/-! ### The shift and the level on numbers (R259) -/

theorem Machine.toNat_lfsrFeedback (mode : Bool) (r : BitVec 15) :
    (lfsrFeedback mode r).toNat = (r.toNat % 2 + r.toNat / 2 ^ lfsrTap mode % 2) % 2 := by
  have hbit (i : Nat) : (r.getLsbD i).toNat = r.toNat / 2 ^ i % 2 := Nat.toNat_testBit ..
  have hxor (a b : Bool) : (a ^^ b).toNat = (a.toNat + b.toNat) % 2 := by cases a <;> cases b <;> rfl
  rw [lfsrFeedback_eq_xor, hxor, hbit, hbit, Nat.pow_zero, Nat.div_one]

/-- R259: the register is halved, and the feedback comes in at bit 14. -/
theorem Machine.toNat_lfsrNext (mode : Bool) (r : BitVec 15) : (lfsrNext mode r).toNat =
    r.toNat / 2 + 2 ^ 14 * ((r.toNat % 2 + r.toNat / 2 ^ lfsrTap mode % 2) % 2) := by
  have hhalf : (r >>> 1).toNat = r.toNat / 2 := by rw [BitVec.toNat_ushiftRight, Nat.shiftRight_one]
  have hfeedback (b : Bool) : ((BitVec.ofBool b).setWidth 15 <<< 14).toNat = 2 ^ 14 * b.toNat := by
    cases b <;> rfl
  have hlt : r.toNat / 2 < 2 ^ 14 := by omega
  rw [lfsrNext, BitVec.toNat_or, hhalf, hfeedback, Nat.lor_comm, ← Nat.two_pow_add_eq_or_of_lt hlt,
    toNat_lfsrFeedback, Nat.add_comm]

/-- R259: the volume while the generator is active and bit 0 of the register is 1, else 0. -/
theorem Machine.Noise.output_eq (g : Noise) : g.output =
    if g.enabled = true ∧ 0 < g.length.toNat ∧ g.lfsr.toNat % 2 = 1
    then (if g.env.const then g.env.vol.toNat else g.env.level.toNat) else 0 := by
  have hbit : g.lfsr.getLsbD 0 = true ↔ g.lfsr.toNat % 2 = 1 := by
    rw [BitVec.getLsbD, Nat.testBit_zero, decide_eq_true_iff]
  simp only [Noise.output, Envelope.output, Bool.and_eq_true, decide_eq_true_eq, ne_zero_iff_toNat_pos, hbit,
    and_assoc, apply_ite BitVec.toNat]

theorem Machine.Noise.output_le (g : Noise) : g.output ≤ Channel.levelMax .noi := by
  have hmax : Channel.levelMax .noi = 15 := rfl
  have hvolume := g.env.output.isLt
  unfold Noise.output
  split <;> omega

/-! ### What a cycle of the noise generator shows -/

/-- What state `t` shows of the noise generator: timer and level register on numbers, the shift register, and all its
level events. -/
structure NoiseShows (t : State) (timer : Nat) (lfsr : BitVec 15) (level : Nat) (events : List LevelEvent) : Prop where
  timer  : t.noi.timer.toNat = timer
  lfsr   : t.noi.lfsr = lfsr
  level  : t.levels.noi.toNat = level
  events : eventsOf .noi t.events = events

/-- From `s` to `t` the generator fires once, stamped `stamp`; its timer comes to `timer`. -/
def NoiseFires (stamp : Time) (timer : Nat) (s t : State) : Prop :=
  NoiseShows t timer (lfsrNext s.noi.mode s.noi.lfsr) s.noi.output
    (eventsOf .noi s.events ++ levelChange .noi s.noi.output stamp s)

theorem NoiseShows.refl (s : State) :
    NoiseShows s s.noi.timer.toNat s.noi.lfsr s.levels.noi.toNat (eventsOf .noi s.events) :=
  ⟨rfl, rfl, rfl, rfl⟩

/-- Setting the timer shows in the timer alone. -/
theorem NoiseShows.setTimer {t : State} {timer level : Nat} {lfsr : BitVec 15} {events : List LevelEvent}
    (h : NoiseShows t timer lfsr level events) (n : BitVec 12) :
    NoiseShows { t with noi := { t.noi with timer := n } } n.toNat lfsr level events :=
  ⟨rfl, h.lfsr, h.level, h.events⟩

/-- R258, R259: a fire presents the level of the register before the shift, and reloads the timer. -/
theorem fireNoiseReload_fires (t : Time) (s : State) : NoiseFires t s.noi.period.toNat s (fireNoiseReload t s) where
  timer := rfl
  lfsr := rfl
  level := setLevel_get_same .noi _ t s s.noi.output_le
  events := (congrArg (eventsOf .noi) (setLevel_events ..)).trans (by rw [eventsOf_append, eventsOf_levelChange_same])

/-- R83: every noise period is at least 2, so a reloaded timer does not expire in the cycle of its reload. -/
theorem Machine.two_le_noisePeriod (d : Domain) (i : BitVec 4) : 2 ≤ (noisePeriod d i).toNat := by
  cases d <;> revert i <;> decide

theorem Machine.Noise.InRange.two_le_period {g : Noise} (h : g.InRange) : 2 ≤ g.period.toNat := by
  obtain ⟨-, -, -, -, d, i, hperiod⟩ := h
  exact hperiod ▸ two_le_noisePeriod d i

section noiseCycle
variable {s : State} (now : Time)

/-- R258: a due fire is stamped `now`, and the reloaded timer counts in the same cycle. -/
theorem noiseCycle_fires_of_due (hperiod : 2 ≤ s.noi.period.toNat) (htimer : s.noi.timer.toNat = 0) :
    NoiseFires now (s.noi.period.toNat - 1) s (noiseCycle now s) := by
  have hfire := fireNoiseReload_fires now s
  have hcounted : ((fireNoiseReload now s).noi.timer - 1).toNat = s.noi.period.toNat - 1 := by
    rw [toNat_sub_one_of_ne_zero (by rw [hfire.timer]; omega), hfire.timer]
  rw [noiseCycle, countCycle_of_due]
  · exact hcounted ▸ hfire.setTimer _
  · exact BitVec.eq_of_toNat_eq htimer
  · exact (ne_zero_iff_toNat_pos _).mpr (Nat.lt_of_lt_of_eq (by omega) hcounted.symm)

/-- R258: a timer at 1 expires in this cycle, and the fire is stamped `now + 1`. -/
theorem noiseCycle_fires_of_expiring (htimer : s.noi.timer.toNat = 1) :
    NoiseFires (now + 1) s.noi.period.toNat s (noiseCycle now s) := by
  have hone : s.noi.timer = 1 := BitVec.eq_of_toNat_eq htimer
  rw [noiseCycle, countCycle_of_expiring]
  · exact fireNoiseReload_fires (now + 1) { s with noi := { s.noi with timer := s.noi.timer - 1 } }
  · rw [hone]
    decide
  · rw [hone]
    rfl

/-- R258: any other timer only counts. -/
theorem noiseCycle_shows_of_counting (htimer : 2 ≤ s.noi.timer.toNat) :
    NoiseShows (noiseCycle now s) (s.noi.timer.toNat - 1) s.noi.lfsr s.levels.noi.toNat (eventsOf .noi s.events) := by
  have hcounted := toNat_sub_one_of_ne_zero (x := s.noi.timer) (by omega)
  rw [noiseCycle, countCycle_of_running]
  · exact hcounted ▸ (NoiseShows.refl s).setTimer _
  · exact (ne_zero_iff_toNat_pos _).mpr (by omega)
  · exact (ne_zero_iff_toNat_pos _).mpr (Nat.lt_of_lt_of_eq (by omega) hcounted.symm)

end noiseCycle

/-! ### What a sequencer step leaves of the noise generator (R172) -/

/-- The noise fields that only the timer moves. -/
def Machine.Noise.position (g : Noise) : BitVec 12 × BitVec 15 := (g.timer, g.lfsr)

theorem Machine.Noise.position_eq_iff (g g' : Noise) :
    g.position = g'.position ↔ g.timer = g'.timer ∧ g.lfsr = g'.lfsr :=
  Prod.ext_iff

theorem runTicks_noi_position (fast slow reserved : Bool) (s : State) :
    (runTicks fast slow reserved s).noi.position = s.noi.position := by
  cases fast <;> cases slow <;> cases reserved <;> rfl

theorem stepIfExpired_noi_position (s : State) : (stepIfExpired s).noi.position = s.noi.position := by
  unfold stepIfExpired
  split
  · exact runTicks_noi_position ..
  · rfl

/-! ### ADVANCE 1 -/

@[simp] theorem elapse_noi (k : Nat) (s : State) : (elapse k s).noi = s.noi := rfl

theorem generatorsCycle_agreeOn_noi (now : Time) (s : State) :
    AgreeOn .noi (generatorsCycle now s) (noiseCycle now s) :=
  (generatorsCycle_processed now s).inside .noi (mem_allChannels .noi)

theorem generatorsCycle_noi (now : Time) (s : State) : (generatorsCycle now s).noi = (noiseCycle now s).noi := by
  obtain ⟨hgenerator, -⟩ := generatorsCycle_agreeOn_noi now s
  exact hgenerator

/-- R149: a master cycle shows of the noise generator what its own cycle makes of it. -/
theorem NoiseShows.of_noiseCycle {s : State} {timer level : Nat} {lfsr : BitVec 15} {events : List LevelEvent}
    (h : NoiseShows (noiseCycle s.frameTime s) timer lfsr level events) :
    NoiseShows (cycle s) timer lfsr level events := by
  obtain ⟨-, hlevel, hevents⟩ := generatorsCycle_agreeOn_noi s.frameTime s
  have hposition : (cycle s).noi.position = (noiseCycle s.frameTime s).noi.position := by
    rw [cycle_eq, stepIfExpired_noi_position, elapse_noi, generatorsCycle_noi]
  obtain ⟨htimer, hlfsr⟩ := (Noise.position_eq_iff _ _).mp hposition
  refine ⟨?_, hlfsr.trans h.lfsr, ?_, ?_⟩
  · rw [htimer, h.timer]
  · rw [cycle_eq, stepIfExpired_levels, elapse_levels]
    exact hlevel.trans h.level
  · rw [cycle_eq, stepIfExpired_events, elapse_events, hevents, h.events]

/-- R172: in a cycle with no sequencer step the noise generator moves its timer and its register alone. -/
theorem cycle_noi_of_running {s : State} (hruns : s.seqDiv.toNat ≠ 1) :
    (cycle s).noi = { s.noi with timer := (cycle s).noi.timer, lfsr := (cycle s).noi.lfsr } := by
  refine Noise.eq_of_eraseTimer_eq ?_
  rw [cycle_of_running hruns, elapse_noi, generatorsCycle_noi, noiseCycle_eraseTimer]

/-- Settles O33: what a cycle shows of the generator is what `noiseCycle` makes of it, case by case of the timer; the
level and the shift of a fire are put on numbers. -/
theorem noiseMasterCycle : Obligations.NoiseMasterCycle := by
  intro s hinv
  refine ⟨cycle s, rfl, ?_⟩
  intro g r old new shifted fires
  have hnew : s.noi.output = new := Noise.output_eq _
  have hshifted : (lfsrNext g.mode g.lfsr).toNat = shifted := toNat_lfsrNext g.mode g.lfsr
  have fires_of_noiseFires {stamp : Time} {timer : Nat}
      (h : NoiseFires stamp timer s (noiseCycle s.frameTime s)) : fires stamp timer := by
    obtain ⟨htimer, hlfsr, hlevel, hevents⟩ := NoiseShows.of_noiseCycle h
    rw [hnew] at hlevel hevents
    exact ⟨htimer, hlfsr ▸ hshifted, hlevel, hevents⟩
  refine ⟨fun htimer => ?_, fun htimer => ?_, fun htimer => ?_, cycle_noi_of_running⟩
  · exact fires_of_noiseFires (noiseCycle_fires_of_due s.frameTime hinv.noi.two_le_period htimer)
  · exact fires_of_noiseFires (noiseCycle_fires_of_expiring s.frameTime htimer)
  · obtain ⟨hcounted, hlfsr, hlevel, hevents⟩ := (noiseCycle_shows_of_counting s.frameTime htimer).of_noiseCycle
    exact ⟨hcounted, hlfsr, BitVec.eq_of_toNat_eq hlevel, hevents⟩

end Sys2Proof
end

/-! ## Level registers and level events (spec/46_mixer.md R301, R302; spec/70_reset_and_hazards.md R360)

But for RESET, levels are written and events emitted by SetLevel alone, so that the two stay in step
(`EventsMatchLevels`) through every fire, cycle and ADVANCE; of the other commands only a DMC.1 write calls it. -/

section
namespace Sys2Proof
open Machine

/-! ### Events that add up to the change of the levels (R302) -/

/-- From `s` to `t` events are only appended, and for each channel the new ones add up to the change of its level. -/
def EventsMatchLevels (s t : State) : Prop :=
  ∃ new : List LevelEvent, t.events = s.events ++ new ∧
    ∀ c : Channel, deltaSum c new = (t.levels.get c : Int) - s.levels.get c

/-- An update that touches neither levels nor events. -/
theorem EventsMatchLevels.of_eq {s t : State} (hlevels : t.levels = s.levels) (hevents : t.events = s.events) :
    EventsMatchLevels s t := by
  refine ⟨[], by rw [hevents, List.append_nil], fun c => ?_⟩
  rw [hlevels, deltaSum_nil, Int.sub_self]

theorem EventsMatchLevels.refl (s : State) : EventsMatchLevels s s := .of_eq rfl rfl

theorem EventsMatchLevels.trans {s t u : State} (h : EventsMatchLevels s t) (h' : EventsMatchLevels t u) :
    EventsMatchLevels s u := by
  obtain ⟨new, hevents, hsum⟩ := h
  obtain ⟨new', hevents', hsum'⟩ := h'
  refine ⟨new ++ new', by rw [hevents', hevents, List.append_assoc], fun c => ?_⟩
  rw [deltaSum_append, hsum, hsum']
  omega

theorem deltaSum_levelChange_other {ch c : Channel} (h : c ≠ ch) (v : Nat) (t : Time) (s : State) :
    deltaSum c (levelChange ch v t s) = 0 := by
  rw [deltaSum, eventsOf_levelChange_other ch c v t s h]
  rfl

/-- R301: SetLevel emits the change it makes, of a level that fits its register. -/
theorem setLevel_eventsMatchLevels {ch : Channel} {v : Nat} (hfits : v ≤ Channel.levelMax ch) (t : Time) (s : State) :
    EventsMatchLevels s (setLevel ch v t s) := by
  refine ⟨levelChange ch v t s, setLevel_events ch v t s, fun c => ?_⟩
  by_cases hc : c = ch
  · subst hc
    rw [deltaSum_levelChange, setLevel_get_same c v t s hfits]
  · rw [deltaSum_levelChange_other hc, setLevel_get_other ch c v t s hc, Int.sub_self]

/-! ### Fires and cycles -/

theorem setPulse_eventsMatchLevels (p : PulseId) (g : Pulse) (s : State) : EventsMatchLevels s (s.setPulse p g) :=
  .of_eq (State.setPulse_levels ..) (State.setPulse_events ..)

theorem setTri_eventsMatchLevels (g : Triangle) (s : State) : EventsMatchLevels s { s with tri := g } := .of_eq rfl rfl

theorem setNoise_eventsMatchLevels (g : Noise) (s : State) : EventsMatchLevels s { s with noi := g } := .of_eq rfl rfl

theorem setDmc_eventsMatchLevels (g : Dmc) (s : State) : EventsMatchLevels s { s with dmc := g } := .of_eq rfl rfl

theorem firePulseReload_eventsMatchLevels (p : PulseId) (t : Time) (s : State) :
    EventsMatchLevels s (firePulseReload p t s) :=
  ((setLevel_eventsMatchLevels ((s.pulse p).output_le p) t s).trans (setPulse_eventsMatchLevels ..)).trans
    (setPulse_eventsMatchLevels ..)

theorem triLevel_le (i : BitVec 5) : (triLevel i).toNat ≤ Channel.levelMax .tri := Nat.le_of_lt_succ (triLevel i).isLt

theorem fireTriReload_eventsMatchLevels (t : Time) (s : State) : EventsMatchLevels s (fireTriReload t s) :=
  ((setLevel_eventsMatchLevels (triLevel_le s.tri.step) t s).trans (setTri_eventsMatchLevels ..)).trans
    (setTri_eventsMatchLevels ..)

theorem triUltrasonic_eventsMatchLevels (now : Time) (s : State) : EventsMatchLevels s (triUltrasonic now s) :=
  (setLevel_eventsMatchLevels (triLevel_le 7) (now + 1) s).trans (setTri_eventsMatchLevels ..)

theorem fireNoiseReload_eventsMatchLevels (t : Time) (s : State) : EventsMatchLevels s (fireNoiseReload t s) :=
  ((setLevel_eventsMatchLevels s.noi.output_le t s).trans (setNoise_eventsMatchLevels ..)).trans
    (setNoise_eventsMatchLevels ..)

/-- R272, R282: the sample unit presents its delta counter, which is as wide as the level register. -/
theorem presentDelta_eventsMatchLevels (g : Dmc) (t : Time) (s : State) :
    EventsMatchLevels s (setLevel .dmc g.delta.toNat t { s with dmc := g }) :=
  (setDmc_eventsMatchLevels g s).trans (setLevel_eventsMatchLevels (Nat.le_of_lt_succ g.delta.isLt) t _)

theorem dmcReader_eventsMatchLevels (t : Time) (s : State) : EventsMatchLevels s (dmcReader t s) := by
  unfold dmcReader
  split
  · exact .of_eq rfl rfl
  · exact .refl s

theorem fireDmcReload_eventsMatchLevels (t : Time) (s : State) : EventsMatchLevels s (fireDmcReload t s) :=
  ((dmcReader_eventsMatchLevels t s).trans (presentDelta_eventsMatchLevels _ t _)).trans
    (setDmc_eventsMatchLevels ..)

/-- A timer cycle keeps levels and events in step when the timer update and the fire do. -/
theorem countCycle_eventsMatchLevels {n : Nat} {timer : State → BitVec n} {setTimer : State → BitVec n → State}
    {fire : Time → State → State} (hset : ∀ s k, EventsMatchLevels s (setTimer s k))
    (hfire : ∀ t s, EventsMatchLevels s (fire t s)) (now : Time) (s : State) :
    EventsMatchLevels s (countCycle timer setTimer fire now s) :=
  countCycle_keeps EventsMatchLevels .refl (fun _ _ _ h h' => h.trans h') hset hfire now s

theorem pulseCycle_eventsMatchLevels (p : PulseId) (now : Time) (s : State) :
    EventsMatchLevels s (pulseCycle p now s) := by
  unfold pulseCycle
  split
  · exact .refl s
  · exact countCycle_eventsMatchLevels (fun _ _ => setPulse_eventsMatchLevels ..)
      (firePulseReload_eventsMatchLevels p) now s

theorem triCycle_eventsMatchLevels (now : Time) (s : State) : EventsMatchLevels s (triCycle now s) := by
  unfold triCycle
  split
  · exact .refl s
  · split
    · exact triUltrasonic_eventsMatchLevels now s
    · exact countCycle_eventsMatchLevels (fun _ _ => setTri_eventsMatchLevels ..) fireTriReload_eventsMatchLevels now s

theorem genCycle_eventsMatchLevels (c : Channel) (now : Time) (s : State) : EventsMatchLevels s (genCycle c now s) := by
  cases c with
  | p1 => exact pulseCycle_eventsMatchLevels .p1 now s
  | p2 => exact pulseCycle_eventsMatchLevels .p2 now s
  | tri => exact triCycle_eventsMatchLevels now s
  | noi =>
    exact countCycle_eventsMatchLevels (fun _ _ => setNoise_eventsMatchLevels ..) fireNoiseReload_eventsMatchLevels now s
  | dmc =>
    exact countCycle_eventsMatchLevels (fun _ _ => setDmc_eventsMatchLevels ..) fireDmcReload_eventsMatchLevels now s

theorem generatorsCycle_eventsMatchLevels (now : Time) (s : State) : EventsMatchLevels s (generatorsCycle now s) :=
  ((((genCycle_eventsMatchLevels .p1 now s).trans (genCycle_eventsMatchLevels .p2 now _)).trans
    (genCycle_eventsMatchLevels .tri now _)).trans (genCycle_eventsMatchLevels .noi now _)).trans
    (genCycle_eventsMatchLevels .dmc now _)

/-- R149: the clock and the sequencer step that end a cycle touch neither levels nor events. -/
theorem cycle_eventsMatchLevels (s : State) : EventsMatchLevels s (cycle s) := by
  rw [cycle_eq]
  refine (generatorsCycle_eventsMatchLevels s.frameTime s).trans (.of_eq ?_ ?_)
  · rw [stepIfExpired_levels, elapse_levels]
  · rw [stepIfExpired_events, elapse_events]

theorem advance_eventsMatchLevels (n : Nat) (s : State) : EventsMatchLevels s (advance n s) :=
  advance_keeps EventsMatchLevels .refl (fun _ _ _ h h' => h.trans h') cycle_eventsMatchLevels n s

/-! ### Commands -/

/-- R171: neither form of a MODE write touches levels or events. -/
theorem execWrMode_levels_events {data : Byte} {s t : State} (hexec : execWrMode data s = .next t) :
    t.levels = s.levels ∧ t.events = s.events := by
  unfold execWrMode at hexec
  split at hexec <;> cases hexec
  · exact ⟨runTicks_levels .., runTicks_events ..⟩
  · exact ⟨rfl, rfl⟩

/-- What a command can do to levels and events: ADVANCE, a DMC.1 write and RESET do it, every other command leaves both
as they were. -/
theorem exec_levels_cases {i : Instr} {s t : State} (hexec : exec i s = .next t) :
    (∃ n, i = .adv n ∧ t = advance n.toNat s) ∨
    (∃ d, i = .wrDmcR1 d ∧
      t = setLevel .dmc (s.dmc.write1 d).delta.toNat s.frameTime { s with dmc := s.dmc.write1 d }) ∨
    (i = .rst ∧ t = resetBlock s) ∨
    (t.levels = s.levels ∧ t.events = s.events) := by
  cases i with
  | adv n =>
    cases hexec
    exact .inl ⟨n, rfl, rfl⟩
  | wrDmcR1 d =>
    cases hexec
    exact .inr (.inl ⟨d, rfl, rfl⟩)
  | rst =>
    cases hexec
    exact .inr (.inr (.inl ⟨rfl, rfl⟩))
  | wrMode d => exact .inr (.inr (.inr (execWrMode_levels_events hexec)))
  | _ =>
    cases hexec
    exact .inr (.inr (.inr ⟨rfl, rfl⟩))

/-- R302 (d), R360: RESET zeroes every level and emits nothing. -/
theorem exec_rst_levels_events {s t : State} (hexec : exec .rst s = .next t) :
    t.events = s.events ∧ ∀ c, t.levels.get c = 0 := by
  cases hexec
  refine ⟨State.resetBlock_events s, fun c => ?_⟩
  cases c <;> rfl

/-- A DMC.1 write leaves the level of every other channel (R272). -/
theorem exec_wrDmcR1_get_other {d : Byte} {s t : State} (hexec : exec (.wrDmcR1 d) s = .next t) {c : Channel}
    (hc : c ≠ .dmc) : t.levels.get c = s.levels.get c := by
  cases hexec
  exact setLevel_get_other .dmc c _ _ _ hc

/-- Settles O50: the writers are the cases of `exec_levels_cases`; RESET and the DMC.1 write have their own lemmas. -/
theorem levelsWrittenByAdvanceDeltaAndReset : Obligations.LevelsWrittenByAdvanceDeltaAndReset := by
  intro i s t hexec
  refine ⟨fun hlevels => ?_, fun hevents => ?_, ?_, ?_⟩
  · obtain ⟨n, hi, -⟩ | ⟨d, hi, -⟩ | ⟨hi, -⟩ | ⟨hsame, -⟩ := exec_levels_cases hexec
    · exact .inl ⟨n, hi⟩
    · exact .inr (.inl ⟨d, hi⟩)
    · exact .inr (.inr hi)
    · exact absurd hsame hlevels
  · obtain ⟨n, hi, -⟩ | ⟨d, hi, -⟩ | ⟨-, rfl⟩ | ⟨-, hsame⟩ := exec_levels_cases hexec
    · exact .inl ⟨n, hi⟩
    · exact .inr ⟨d, hi⟩
    · exact absurd (State.resetBlock_events s) hevents
    · exact absurd hsame hevents
  · rintro ⟨d, rfl⟩ c hc
    exact exec_wrDmcR1_get_other hexec hc
  · rintro rfl
    exact exec_rst_levels_events hexec

/-- Settles O51: ADVANCE and a DMC.1 write keep levels and events in step, and every other command but RESET touches
neither. -/
theorem eventsSumToLevels : Obligations.EventsSumToLevels := by
  intro i s t hexec
  refine ⟨fun hnotReset => ?_, ?_⟩
  · obtain ⟨n, -, rfl⟩ | ⟨d, -, rfl⟩ | ⟨hreset, -⟩ | ⟨hlevels, hevents⟩ := exec_levels_cases hexec
    · exact advance_eventsMatchLevels n.toNat s
    · exact presentDelta_eventsMatchLevels (s.dmc.write1 d) s.frameTime s
    · exact absurd hreset hnotReset
    · exact EventsMatchLevels.of_eq hlevels hevents
  · rintro rfl
    exact exec_rst_levels_events hexec

end Sys2Proof
end

/-! ## The analogue output (spec/46_mixer.md R303, R304)

Both default transfers are one saturating function of a load: the pin sum for `DAC1`, the weighted sum of the three
levels for `DAC2`. It is monotonic, so that the output lies between those of all levels at 0 and of all levels full. -/

section
namespace Sys2Proof.Machine

/-- The saturating transfer of a load `x`: `gain / (half / x + 100)`, written so that it is 0 at 0. -/
def saturate (gain half x : ℚ) : ℚ := gain * x / (half + 100 * x)

theorem saturate_zero (gain half : ℚ) : saturate gain half 0 = 0 := by rw [saturate, mul_zero, zero_div]

theorem saturate_of_pos {gain half x : ℚ} (hhalf : 0 < half) (hx : 0 < x) :
    saturate gain half x = gain / (half / x + 100) := by
  have hdenom : 0 < half + 100 * x := by positivity
  rw [saturate]
  field_simp

theorem saturate_le_saturate {gain half x y : ℚ} (hgain : 0 ≤ gain) (hhalf : 0 < half) (hx : 0 ≤ x) (hxy : x ≤ y) :
    saturate gain half x ≤ saturate gain half y := by
  have hy : 0 ≤ y := hx.trans hxy
  rw [saturate, saturate, div_le_div_iff₀ (by positivity) (by positivity)]
  have hcross : gain * half * x ≤ gain * half * y := by gcongr
  linarith

/-! ### `DAC1` -/

theorem dac1_eq_saturate (n : Nat) : dac1 n = saturate (9588 / 100) 8128 n := by
  unfold dac1
  split
  next hzero => rw [hzero, Nat.cast_zero, saturate_zero]
  next hpos => rw [saturate_of_pos (by norm_num) (Nat.cast_pos.mpr (Nat.pos_of_ne_zero hpos))]

theorem dac1_mono {m n : Nat} (h : m ≤ n) : dac1 m ≤ dac1 n := by
  rw [dac1_eq_saturate, dac1_eq_saturate]
  exact saturate_le_saturate (by norm_num) (by norm_num) m.cast_nonneg (Nat.cast_le.mpr h)

/-! ### `DAC2` -/

/-- The load of `DAC2`: triangle, noise and sample levels by their weights (R304). -/
def dac2Load (t n d : Nat) : ℚ := (t : ℚ) / 8227 + (n : ℚ) / 12241 + (d : ℚ) / 22638

theorem dac2Load_nonneg (t n d : Nat) : 0 ≤ dac2Load t n d := by
  unfold dac2Load
  positivity

theorem dac2Load_mono {t n d t' n' d' : Nat} (ht : t ≤ t') (hn : n ≤ n') (hd : d ≤ d') :
    dac2Load t n d ≤ dac2Load t' n' d' := by
  unfold dac2Load
  gcongr

/-- A load of 0 is that of three silent levels. -/
theorem dac2Load_pos {t n d : Nat} (h : ¬ (t = 0 ∧ n = 0 ∧ d = 0)) : 0 < dac2Load t n d := by
  refine lt_of_le_of_ne (dac2Load_nonneg t n d) fun hzero => h ?_
  have ht : (0 : ℚ) ≤ t := t.cast_nonneg
  have hn : (0 : ℚ) ≤ n := n.cast_nonneg
  have hd : (0 : ℚ) ≤ d := d.cast_nonneg
  unfold dac2Load at hzero
  have hsilent : (t : ℚ) = 0 ∧ (n : ℚ) = 0 ∧ (d : ℚ) = 0 := ⟨by linarith, by linarith, by linarith⟩
  exact_mod_cast hsilent

theorem dac2_eq_saturate (t n d : Nat) : dac2 t n d = saturate (15979 / 100) 1 (dac2Load t n d) := by
  unfold dac2
  split
  next hzero =>
    obtain ⟨rfl, rfl, rfl⟩ := hzero
    have hload : dac2Load 0 0 0 = 0 := by norm_num [dac2Load]
    rw [hload, saturate_zero]
  next hpos =>
    rw [saturate_of_pos one_pos (dac2Load_pos hpos)]
    rfl

theorem dac2_mono {t n d t' n' d' : Nat} (ht : t ≤ t') (hn : n ≤ n') (hd : d ≤ d') :
    dac2 t n d ≤ dac2 t' n' d' := by
  rw [dac2_eq_saturate, dac2_eq_saturate]
  exact saturate_le_saturate (by norm_num) one_pos (dac2Load_nonneg t n d) (dac2Load_mono ht hn hd)

/-! ### The output -/

/-- R303: two levels of four bits each. -/
theorem State.pin1_le (s : State) : s.pin1 ≤ 30 := by
  unfold State.pin1
  omega

theorem dac_silent : dac1 0 + dac2 0 0 0 = 0 := by simp [dac1, dac2]

theorem State.out_nonneg (s : State) : 0 ≤ s.out :=
  calc (0 : ℚ) = dac1 0 + dac2 0 0 0 := dac_silent.symm
    _ ≤ s.out := add_le_add (dac1_mono (Nat.zero_le _)) (dac2_mono (Nat.zero_le _) (Nat.zero_le _) (Nat.zero_le _))

theorem dac_full_le_one : dac1 30 + dac2 15 15 127 ≤ 1 := by norm_num [dac1, dac2]

theorem State.out_le_one (s : State) : s.out ≤ 1 :=
  calc s.out ≤ dac1 30 + dac2 15 15 127 :=
        add_le_add (dac1_mono s.pin1_le) (dac2_mono (Nat.le_of_lt_succ s.levels.tri.isLt)
          (Nat.le_of_lt_succ s.levels.noi.isLt) (Nat.le_of_lt_succ s.levels.dmc.isLt))
    _ ≤ 1 := dac_full_le_one

/-- Settles O52: both transfers are monotonic, and the output with every level full is below 1. -/
theorem analogueOutputBounded : Obligations.AnalogueOutputBounded :=
  ⟨fun s => ⟨s.pin1_le, s.out_nonneg, s.out_le_one⟩, fun _ _ => dac1_mono, fun _ _ _ _ _ _ => dac2_mono⟩

end Sys2Proof.Machine
end

/-! ## The decoder and the encoder are inverse (spec/30_encoding.md R100 to R108)

A word is put together from its fields again, so the command a format's fields select encodes to the word they were read
from; in the other direction the fields of a packed word are what was packed. -/

section
namespace Sys2Proof
open Machine

/-! ### Decoding an encoded command -/

/-- Format W at a window offset (R101, R142). -/
theorem decode_writeWord_windowAddr (off : BitVec 5) (d : Byte) :
    decode (writeWord (windowAddr off) d) = .ok (windowWrite off d) := by
  rw [decode_writeWord, writeCommand_windowAddr]

/-- Format Q (R106). -/
theorem decode_getPeriodWord (c : BitVec 3) : decode (getPeriodWord c) = periodCommand c := by
  simp [decode]

/-- Settles O2: each format reads back the fields it was packed from, and the 32 window offsets, the two addresses that
only their catch-all row takes and the five channels select the command they were packed for. -/
theorem decodeInvertsEncode : Obligations.DecodeInvertsEncode := by
  intro i hwf
  cases i with
  | wrOut a d =>
    have hout : ¬ inWindow a = true := by simpa [Instr.wf] using hwf
    rw [encode, decode_writeWord, writeCommand, if_neg hout]
  | rdUnmapped a =>
    have hother : a ≠ windowAddr chip.offStatus := by simpa [Instr.wf] using hwf
    rw [encode, decode_readWord, readCommand, if_neg hother]
  | rdStatus => exact decode_readWord _
  | adv n => simp [encode, decode]
  | rst => rfl
  | eof => rfl
  | clk d => simp [encode, decode]
  | getpP1 | getpP2 | getpTri | getpNoi | getpDmc => exact decode_getPeriodWord _
  | _ => exact decode_writeWord_windowAddr _ _

/-- Settles O1: each listed word is the encoding of its command, but for the query of channel 5, which names none. -/
theorem listedWordsDecode : Obligations.ListedWordsDecode := by
  have hback (i : Instr) (hwf : i.wf = true) : decode (encode i) = .ok i := decodeInvertsEncode i hwf
  exact ⟨hback (.wrP1R0 0xBF) rfl, hback (.wrP2R3 0x08) rfl, hback (.wrTriR2 0x02) rfl, hback (.wrNoiR2 0x85) rfl,
    hback (.wrDmcR0 0x8F) rfl, hback (.wrStatus 0x1F) rfl, hback (.wrMode 0x80) rfl, hback (.wrX14 0xFF) rfl,
    hback (.wrOut 0xFFFF 0xFF) rfl, hback .rdStatus rfl, hback (.rdUnmapped 0x0000) rfl, hback (.adv 7457) rfl,
    hback .rst rfl, hback .eof rfl, hback (.clk .pal) rfl, hback .getpNoi rfl, decode_getPeriodWord 5⟩

/-! ### A word is made of its fields -/

section wordFields
variable (w : Word)

/-- Formats W and R (R101, R102). -/
theorem eq_append_addrField_dataField : w = opField w ++ zeroField w ++ addrField w ++ dataField w := by
  have hop_zero : opField w ++ zeroField w = w.extractLsb' 24 8 :=
    BitVec.extractLsb'_append_extractLsb'_eq_extractLsb' rfl
  have haddr : w.extractLsb' 24 8 ++ addrField w = w.extractLsb' 8 24 :=
    BitVec.extractLsb'_append_extractLsb'_eq_extractLsb' rfl
  have hdata : w.extractLsb' 8 24 ++ dataField w = w.extractLsb' 0 32 :=
    BitVec.extractLsb'_append_extractLsb'_eq_extractLsb' rfl
  rw [hop_zero, haddr, hdata, BitVec.extractLsb'_eq_self]

/-- Formats A and Z (R103, R104). -/
theorem eq_append_lowField : w = opField w ++ lowField w := by
  have hlow : opField w ++ lowField w = w.extractLsb' 0 32 := BitVec.extractLsb'_append_extractLsb'_eq_extractLsb' rfl
  rw [hlow, BitVec.extractLsb'_eq_self]

/-- Format C (R105). -/
theorem eq_append_bit : w = opField w ++ zeroFieldC w ++ w.extractLsb' 0 1 := by
  have hop_zero : opField w ++ zeroFieldC w = w.extractLsb' 1 31 :=
    BitVec.extractLsb'_append_extractLsb'_eq_extractLsb' rfl
  have hbit : w.extractLsb' 1 31 ++ w.extractLsb' 0 1 = w.extractLsb' 0 32 :=
    BitVec.extractLsb'_append_extractLsb'_eq_extractLsb' rfl
  rw [hop_zero, hbit, BitVec.extractLsb'_eq_self]

/-- Format Q (R106). -/
theorem eq_append_channelField : w = opField w ++ zeroFieldQ w ++ channelField w := by
  have hop_zero : opField w ++ zeroFieldQ w = w.extractLsb' 3 29 :=
    BitVec.extractLsb'_append_extractLsb'_eq_extractLsb' rfl
  have hchannel : w.extractLsb' 3 29 ++ channelField w = w.extractLsb' 0 32 :=
    BitVec.extractLsb'_append_extractLsb'_eq_extractLsb' rfl
  rw [hop_zero, hchannel, BitVec.extractLsb'_eq_self]

variable {w}

theorem eq_writeWord (hop : opField w = 1) (hzero : zeroField w = 0) : writeWord (addrField w) (dataField w) = w := by
  have hw := eq_append_addrField_dataField w
  rw [hop, hzero] at hw
  exact hw.symm

theorem eq_readWord (hop : opField w = 2) (hzero : zeroField w = 0) (hdata : dataField w = 0) :
    readWord (addrField w) = w := by
  have hw := eq_append_addrField_dataField w
  rw [hop, hzero, hdata] at hw
  exact hw.symm

theorem eq_advanceWord (hop : opField w = 3) : advanceWord (lowField w) = w := by
  have hw := eq_append_lowField w
  rw [hop] at hw
  exact hw.symm

theorem eq_plainWord {op : BitVec 4} (hop : opField w = op) (hlow : lowField w = 0) : plainWord op = w := by
  have hw := eq_append_lowField w
  rw [hop, hlow] at hw
  exact hw.symm

/-- R105: the bit of format C from the domain it stands for. -/
theorem setClockWord_eq_append (b : BitVec 1) :
    setClockWord (if b.getLsbD 0 then .pal else .ntsc) = 0x6#4 ++ 0#27 ++ b := by
  revert b
  decide

theorem eq_setClockWord (hop : opField w = 6) (hzero : zeroFieldC w = 0) : setClockWord (domainField w) = w := by
  have hdomain : domainField w = if (w.extractLsb' 0 1).getLsbD 0 then .pal else .ntsc := by
    simp [domainField]
  have hw := eq_append_bit w
  rw [hop, hzero] at hw
  rw [hdomain, setClockWord_eq_append]
  exact hw.symm

theorem eq_getPeriodWord (hop : opField w = 7) (hzero : zeroFieldQ w = 0) : getPeriodWord (channelField w) = w := by
  have hw := eq_append_channelField w
  rw [hop, hzero] at hw
  exact hw.symm

end wordFields

/-! ### The command that the fields select -/

/-- R142 to R145: each of the 32 offsets selects a command of that offset. -/
theorem windowWrite_wf_encode (off : BitVec 5) (d : Byte) :
    (windowWrite off d).wf = true ∧ encode (windowWrite off d) = writeWord (windowAddr off) d := by
  obtain ⟨k, hk, rfl⟩ : ∃ k < 32, off = BitVec.ofNat 5 k := ⟨off.toNat, off.isLt, by simp⟩
  interval_cases k <;> exact ⟨rfl, rfl⟩

/-- R142: an address outside the window keeps its own row. -/
theorem writeCommand_wf_encode (a : Addr) (d : Byte) :
    (writeCommand a d).wf = true ∧ encode (writeCommand a d) = writeWord a d := by
  by_cases hwindow : inWindow a = true
  · obtain ⟨off, rfl, -⟩ := exists_windowAddr_of_inWindow hwindow
    rw [writeCommand_windowAddr]
    exact windowWrite_wf_encode off d
  · rw [writeCommand, if_neg hwindow]
    exact ⟨by simpa [Instr.wf] using hwindow, rfl⟩

theorem readCommand_wf_encode (a : Addr) : (readCommand a).wf = true ∧ encode (readCommand a) = readWord a := by
  unfold readCommand
  split
  next hstatus => exact ⟨rfl, congrArg readWord hstatus.symm⟩
  next hother => exact ⟨by simpa [Instr.wf] using hother, rfl⟩

/-- R106: channels 0 to 4. -/
theorem periodCommand_wf_encode {c : BitVec 3} {i : Instr} (h : periodCommand c = .ok i) :
    i.wf = true ∧ encode i = getPeriodWord c := by
  unfold periodCommand at h
  split at h
  case h_6 => cases h
  all_goals
    next hc =>
    cases h
    rw [show c = BitVec.ofNat 3 c.toNat by simp, hc]
    exact ⟨rfl, rfl⟩

/-- A format with a test accepts the words that pass it and that what follows the test accepts. -/
theorem ite_error_eq_ok_iff {c : Prop} [Decidable c] {x : Except DecodeError Instr} {e : DecodeError} {i : Instr} :
    (if c then x else .error e) = .ok i ↔ c ∧ x = .ok i := by
  split <;> simp [*]

/-- R101 to R106: the command a word decodes to, format by format of its `op`. -/
theorem wf_encode_of_decode {w : Word} {i : Instr} (h : decode w = .ok i) : i.wf = true ∧ encode i = w := by
  have hop {op : BitVec 4} (hvalue : (opField w).toNat = op.toNat) : opField w = op := BitVec.eq_of_toNat_eq hvalue
  unfold decode at h
  split at h
  case h_1 hvalue =>
    obtain ⟨hzero, rfl⟩ := (ite_error_eq_ok_iff.mp h).imp_right Except.ok.inj
    exact (writeCommand_wf_encode _ _).imp_right (·.trans (eq_writeWord (hop hvalue) hzero))
  case h_2 hvalue =>
    obtain ⟨⟨hzero, hdata⟩, rfl⟩ := (ite_error_eq_ok_iff.mp h).imp_right Except.ok.inj
    exact (readCommand_wf_encode _).imp_right (·.trans (eq_readWord (hop hvalue) hzero hdata))
  case h_3 hvalue =>
    obtain rfl := Except.ok.inj h
    exact ⟨rfl, eq_advanceWord (hop hvalue)⟩
  case h_4 hvalue =>
    obtain ⟨hlow, rfl⟩ := (ite_error_eq_ok_iff.mp h).imp_right Except.ok.inj
    exact ⟨rfl, eq_plainWord (hop hvalue) hlow⟩
  case h_5 hvalue =>
    obtain ⟨hlow, rfl⟩ := (ite_error_eq_ok_iff.mp h).imp_right Except.ok.inj
    exact ⟨rfl, eq_plainWord (hop hvalue) hlow⟩
  case h_6 hvalue =>
    obtain ⟨hzero, rfl⟩ := (ite_error_eq_ok_iff.mp h).imp_right Except.ok.inj
    exact ⟨rfl, eq_setClockWord (hop hvalue) hzero⟩
  case h_7 hvalue =>
    obtain ⟨hzero, hperiod⟩ := ite_error_eq_ok_iff.mp h
    exact (periodCommand_wf_encode hperiod).imp_right (·.trans (eq_getPeriodWord (hop hvalue) hzero))
  case h_8 => cases h

/-- Settles O3: the fields of the word select the command, and the word is made of those fields. -/
theorem encodeInvertsDecode : Obligations.EncodeInvertsDecode :=
  fun _ _ => wf_encode_of_decode

end Sys2Proof
end

/-! ## A write reaches nothing outside its generator (spec/40_host_commands.md R156)

Two states that agree outside one generator still do after any number of master cycles: a cycle of another generator is
a function of its view, one of the generator itself stays inside it, and a tick treats each generator by itself. -/

section
namespace Sys2Proof
open Machine

/-! ### The write itself -/

/-- R144, R156: a write to a register of generator `ch` completes and stays inside `ch`. -/
theorem exec_agreeOutside_target {i : Instr} {ch : Channel} (htarget : i.target = some ch) (s : State) :
    ∃ t, exec i s = .next t ∧ AgreeOutside ch s t := by
  cases i with
  | wrP1R0 _ | wrP1R1 _ | wrP1R2 _ | wrP1R3 _ =>
    cases htarget
    exact ⟨_, rfl, setPulse_agreeOutside .p1 _ s⟩
  | wrP2R0 _ | wrP2R1 _ | wrP2R2 _ | wrP2R3 _ =>
    cases htarget
    exact ⟨_, rfl, setPulse_agreeOutside .p2 _ s⟩
  | wrTriR0 _ | wrTriR2 _ | wrTriR3 _ =>
    cases htarget
    exact ⟨_, rfl, setTri_agreeOutside _ s⟩
  | wrNoiR0 _ | wrNoiR2 _ | wrNoiR3 _ =>
    cases htarget
    exact ⟨_, rfl, setNoise_agreeOutside _ s⟩
  | wrDmcR0 _ | wrDmcR2 _ | wrDmcR3 _ =>
    cases htarget
    exact ⟨_, rfl, setDmc_agreeOutside _ s⟩
  | wrDmcR1 d =>
    cases htarget
    exact ⟨_, rfl, (setDmc_agreeOutside (s.dmc.write1 d) s).trans (setLevel_agreeOutside .dmc _ _ _)⟩
  | wrTriR1 _ | wrNoiR1 _ => exact ⟨s, rfl, .refl ch s⟩
  | _ => cases htarget

/-! ### Later cycles -/

section agreement
variable {ch c : Channel} {a b : State}

theorem AgreeOutside.genCycle (h : AgreeOutside ch a b) (c : Channel) (now : Time) :
    AgreeOutside ch (genCycle c now a) (genCycle c now b) := by
  obtain ⟨hothers, hrest⟩ := h
  obtain ⟨hothersA, hrestA⟩ := genCycle_agreeOutside c now a
  obtain ⟨hothersB, hrestB⟩ := genCycle_agreeOutside c now b
  refine ⟨fun d hd => ?_, hrestA.symm.trans (hrest.trans hrestB)⟩
  by_cases hdc : d = c
  · subst hdc
    exact (SameView.genCycle ⟨hothers d hd, hrest.store_eq⟩ now).agree
  · exact (hothersA d hdc).symm.trans ((hothers d hd).trans (hothersB d hdc))

theorem AgreeOutside.generatorsCycle (h : AgreeOutside ch a b) (now : Time) :
    AgreeOutside ch (generatorsCycle now a) (generatorsCycle now b) :=
  ((((h.genCycle .p1 now).genCycle .p2 now).genCycle .tri now).genCycle .noi now).genCycle .dmc now

theorem AgreeOutside.elapse (h : AgreeOutside ch a b) (k : Nat) : AgreeOutside ch (elapse k a) (elapse k b) := by
  obtain ⟨hothers, hrest⟩ := h
  exact ⟨fun c hc => (elapse_agreeOn c k a).trans ((hothers c hc).trans (elapse_agreeOn c k b).symm), hrest.elapse k⟩

/-- R174: a fast tick treats each generator by itself. -/
theorem AgreeOn.tickFast (h : AgreeOn c a b) : AgreeOn c (tickFast a) (tickFast b) := by
  obtain ⟨hgenerator, houtput⟩ := h
  refine ⟨?_, houtput⟩
  cases c with
  | p1 => exact congrArg Pulse.clockEnvelope hgenerator
  | p2 => exact congrArg Pulse.clockEnvelope hgenerator
  | tri => exact congrArg Triangle.clockLinear hgenerator
  | noi => exact congrArg Noise.clockEnvelope hgenerator
  | dmc => exact hgenerator

/-- R175: a slow tick treats each generator by itself. -/
theorem AgreeOn.tickSlow (h : AgreeOn c a b) : AgreeOn c (tickSlow a) (tickSlow b) := by
  obtain ⟨hgenerator, houtput⟩ := h
  refine ⟨?_, houtput⟩
  cases c with
  | p1 => exact congrArg (fun g : Pulse => (g.sweep PulseId.p1.diff).clockLen) hgenerator
  | p2 => exact congrArg (fun g : Pulse => (g.sweep PulseId.p2.diff).clockLen) hgenerator
  | tri => exact congrArg Triangle.clockLen hgenerator
  | noi => exact congrArg Noise.clockLen hgenerator
  | dmc => exact hgenerator

theorem AgreeOn.runTicks (h : AgreeOn c a b) (fast slow reserved : Bool) :
    AgreeOn c (runTicks fast slow reserved a) (runTicks fast slow reserved b) := by
  cases fast <;> cases slow <;> cases reserved
  · exact h
  · exact h
  · exact h.tickSlow
  · exact h.tickSlow
  · exact h.tickFast
  · exact h.tickFast
  · exact h.tickFast.tickSlow
  · exact h.tickFast.tickSlow

theorem AgreeOnRest.runTicks (h : AgreeOnRest a b) (fast slow reserved : Bool) :
    AgreeOnRest (runTicks fast slow reserved a) (runTicks fast slow reserved b) := by
  simpa [AgreeOnRest] using h

/-- R172, R173: two states that agree on the sequencer take the same step. -/
theorem AgreeOutside.stepIfExpired (h : AgreeOutside ch a b) : AgreeOutside ch (stepIfExpired a) (stepIfExpired b) := by
  obtain ⟨hothers, hindex, hmode, hdiv, hdomain, hothersRest⟩ := h
  unfold Sys2Proof.stepIfExpired
  rw [hdiv]
  split
  · unfold seqStep
    simp only [hmode, hindex, hdomain]
    refine ⟨fun c hc => AgreeOn.runTicks ?_ _ _ _, AgreeOnRest.runTicks ?_ _ _ _⟩
    · exact hothers c hc
    · exact ⟨rfl, rfl, rfl, rfl, hothersRest⟩
  · exact ⟨hothers, hindex, hmode, hdiv, hdomain, hothersRest⟩

theorem AgreeOutside.cycle (h : AgreeOutside ch a b) : AgreeOutside ch (cycle a) (cycle b) := by
  rw [cycle_eq, cycle_eq, h.2.frameTime_eq]
  exact ((h.generatorsCycle _).elapse 1).stepIfExpired

theorem AgreeOutside.advance (h : AgreeOutside ch a b) (n : Nat) : AgreeOutside ch (advance n a) (advance n b) := by
  induction n generalizing a b with
  | zero => exact h
  | succ n ih => exact ih h.cycle

end agreement

/-- Settles O43: the write stays inside its generator, and ADVANCE keeps two states in agreement outside it. -/
theorem writeIsolatedToTarget : Obligations.WriteIsolatedToTarget := by
  intro i ch htarget n s
  obtain ⟨t, hexec, hwrite⟩ := exec_agreeOutside_target htarget s
  exact ⟨t, advance n.toNat s, advance n.toNat t, hexec, rfl, rfl, hwrite, hwrite.advance n.toNat⟩

/-- Settles O40: `advance_add`, with a sum that fits its operand. -/
theorem advanceSplitsFreely : Obligations.AdvanceSplitsFreely := by
  intro a b s hfits
  refine ⟨rfl, advance a.toNat s, advance b.toNat (advance a.toNat s), rfl, rfl, ?_⟩
  rw [← advance_add, ← BitVec.toNat_add_of_lt hfits]
  rfl

end Sys2Proof
end

/-! ## What ADVANCE leaves alone (spec/10_state.md R22, R25 to R28; spec/00_scope.md R9)

A cycle writes of each generator only the fields whose tables name a tick, a timer or a fire as writer, and of the rest
only what counts time or records output: the state with all of these erased is an invariant of the cycle. -/

section
namespace Sys2Proof
open Machine

/-! ### The latches of a generator -/

/-- The pulse fields that only a WRITE, the enable control or RESET writes (R25). -/
def Machine.Pulse.latches (g : Pulse) : Pulse :=
  { g with env := { g.env with div := 0, level := 0 }, swDiv := 0, swWritten := false, swResult := 0, period := 0,
           timer := 0, dutyStep := 0, length := 0 }

/-- The triangle fields that only a WRITE, the enable control or RESET writes (R26). -/
def Machine.Triangle.latches (g : Triangle) : Triangle :=
  { g with linCounter := 0, halt := false, timer := 0, step := 0, length := 0 }

/-- The noise fields that only a WRITE, the enable control or RESET writes (R27). -/
def Machine.Noise.latches (g : Noise) : Noise :=
  { g with env := { g.env with div := 0, level := 0 }, timer := 0, lfsr := 0, length := 0 }

/-- The sample unit's fields that only a WRITE or RESET writes (R28). -/
def Machine.Dmc.latches (g : Dmc) : Dmc :=
  { g with timer := 0, curAddr := 0, bytes := 0, buffer := 0, filled := false, shift := 0, bitDiv := 0,
           silence := false, delta := 0, irq := false }

/-! ### Ticks and fires leave the latches alone -/

theorem Machine.Envelope.clock_latches (e : Envelope) :
    { e.clock with div := 0, level := 0 } = { e with div := 0, level := 0 } := by
  unfold Envelope.clock
  split <;> rfl

theorem Machine.Pulse.clockEnvelope_latches (g : Pulse) : g.clockEnvelope.latches = g.latches :=
  congrArg (fun e => { g.latches with env := e }) g.env.clock_latches

theorem Machine.Pulse.sweep_latches (diff : Int) (g : Pulse) : (g.sweep diff).latches = g.latches := by
  unfold Pulse.sweep Pulse.sweepReload Pulse.sweepDivide
  simp only
  split_ifs <;> rfl

theorem Machine.Noise.clockEnvelope_latches (g : Noise) : g.clockEnvelope.latches = g.latches :=
  congrArg (fun e => { g.latches with env := e }) g.env.clock_latches

theorem Machine.Dmc.afterReader_latches (g : Dmc) (b : Byte) : (g.afterReader b).latches = g.latches := by
  rw [Dmc.afterReader_eq]
  split_ifs <;> rfl

theorem Machine.Dmc.startOutput_latches (g : Dmc) : g.startOutput.latches = g.latches := by
  rw [Dmc.startOutput_eq]
  split_ifs <;> rfl

theorem Machine.Dmc.fire_latches (g : Dmc) (b : Byte) : (g.fire b).latches = g.latches :=
  (g.afterReader b).startOutput_latches.trans (g.afterReader_latches b)

theorem fireDmcReload_latches (t : Time) (s : State) : (fireDmcReload t s).dmc.latches = s.dmc.latches := by
  rw [(fireDmcReload_fires t s).dmc]
  exact s.dmc.fire_latches s.cursorByte

theorem dmcCycle_latches (now : Time) (s : State) : (dmcCycle now s).dmc.latches = s.dmc.latches := by
  refine countCycle_invariant (fun s => s.dmc.latches) ?_ fireDmcReload_latches now s
  exact fun _ _ => rfl

/-! ### Cycles leave the latches and the rest alone -/

/-- The state with all erased that a cycle writes: left are the latches, the frame mode, the clock domain, the sample
store, the queue and the responses. -/
def Machine.State.eraseAdvanced (s : State) : State :=
  { s with
    p1 := s.p1.latches, p2 := s.p2.latches, tri := s.tri.latches, noi := s.noi.latches, dmc := s.dmc.latches
    seqIndex := 0, seqDiv := 0, frameTime := 0, levels := Levels.zero, draws := 0, events := [], fetches := [] }

/-- What a cycle makes of generator `c` is what its own step makes of it (R149). -/
theorem generatorsCycle_agreeOn (c : Channel) (now : Time) (s : State) :
    AgreeOn c (generatorsCycle now s) (genCycle c now s) :=
  (generatorsCycle_processed now s).inside c (mem_allChannels c)

/-- The generator steps move timers and positions, of which the latches are free. -/
theorem generatorsCycle_eraseAdvanced (now : Time) (s : State) :
    (generatorsCycle now s).eraseAdvanced = s.eraseAdvanced := by
  have hp1 : (generatorsCycle now s).p1.latches = s.p1.latches := by
    obtain ⟨hgenerator, -⟩ := generatorsCycle_agreeOn .p1 now s
    exact (congrArg Pulse.latches hgenerator).trans (congrArg Pulse.latches (pulseCycle_eraseTimer .p1 now s) :)
  have hp2 : (generatorsCycle now s).p2.latches = s.p2.latches := by
    obtain ⟨hgenerator, -⟩ := generatorsCycle_agreeOn .p2 now s
    exact (congrArg Pulse.latches hgenerator).trans (congrArg Pulse.latches (pulseCycle_eraseTimer .p2 now s) :)
  have htri : (generatorsCycle now s).tri.latches = s.tri.latches := by
    obtain ⟨hgenerator, -⟩ := generatorsCycle_agreeOn .tri now s
    exact (congrArg Triangle.latches hgenerator).trans (congrArg Triangle.latches (triCycle_eraseTimer now s) :)
  have hnoi : (generatorsCycle now s).noi.latches = s.noi.latches := by
    obtain ⟨hgenerator, -⟩ := generatorsCycle_agreeOn .noi now s
    exact (congrArg Noise.latches hgenerator).trans (congrArg Noise.latches (noiseCycle_eraseTimer now s) :)
  have hdmc : (generatorsCycle now s).dmc.latches = s.dmc.latches := by
    obtain ⟨⟨hgenerator, -⟩, -⟩ := generatorsCycle_agreeOn .dmc now s
    exact (congrArg Dmc.latches hgenerator).trans (dmcCycle_latches now s)
  obtain ⟨-, hmode, -, hdomain, -, hstore, hpending, hresponses⟩ := generatorsCycle_agreeOnRest now s
  simp only [State.eraseAdvanced, hp1, hp2, htri, hnoi, hdmc, hmode, hdomain, hstore, hpending, hresponses]

theorem tickFast_eraseAdvanced (s : State) : (tickFast s).eraseAdvanced = s.eraseAdvanced := by
  simp only [State.eraseAdvanced, tickFast, Pulse.clockEnvelope_latches, Noise.clockEnvelope_latches]
  rfl

theorem tickSlow_eraseAdvanced (s : State) : (tickSlow s).eraseAdvanced = s.eraseAdvanced := by
  have hpulse (p : PulseId) (g : Pulse) : (g.sweep p.diff).clockLen.latches = g.latches := Pulse.sweep_latches p.diff g
  simp only [State.eraseAdvanced, tickSlow, hpulse]
  rfl

theorem runTicks_eraseAdvanced (fast slow reserved : Bool) (s : State) :
    (runTicks fast slow reserved s).eraseAdvanced = s.eraseAdvanced := by
  have hfast : (if fast then tickFast s else s).eraseAdvanced = s.eraseAdvanced := by
    split
    · exact tickFast_eraseAdvanced s
    · rfl
  have hslow := (tickSlow_eraseAdvanced _).trans hfast
  cases slow <;> cases reserved <;> assumption

theorem stepIfExpired_eraseAdvanced (s : State) : (stepIfExpired s).eraseAdvanced = s.eraseAdvanced := by
  unfold stepIfExpired
  split
  · exact runTicks_eraseAdvanced ..
  · rfl

theorem elapse_eraseAdvanced (k : Nat) (s : State) : (elapse k s).eraseAdvanced = s.eraseAdvanced := rfl

theorem cycle_eraseAdvanced (s : State) : (cycle s).eraseAdvanced = s.eraseAdvanced := by
  rw [cycle_eq, stepIfExpired_eraseAdvanced, elapse_eraseAdvanced, generatorsCycle_eraseAdvanced]

theorem advance_eraseAdvanced (n : Nat) (s : State) : (advance n s).eraseAdvanced = s.eraseAdvanced :=
  advance_keeps (fun a b => b.eraseAdvanced = a.eraseAdvanced) (fun _ => rfl) (fun _ _ _ hab hbc => hbc.trans hab)
    cycle_eraseAdvanced n s

section advance
variable (n : Nat) (s : State)

@[simp] theorem advance_seqMode : (advance n s).seqMode = s.seqMode :=
  (congrArg State.seqMode (advance_eraseAdvanced n s) :)

@[simp] theorem advance_domain : (advance n s).domain = s.domain :=
  (congrArg State.domain (advance_eraseAdvanced n s) :)

@[simp] theorem advance_store : (advance n s).store = s.store :=
  (congrArg State.store (advance_eraseAdvanced n s) :)

@[simp] theorem advance_pending : (advance n s).pending = s.pending :=
  (congrArg State.pending (advance_eraseAdvanced n s) :)

theorem advance_pulse_latches (p : PulseId) : ((advance n s).pulse p).latches = (s.pulse p).latches := by
  cases p with
  | p1 => exact congrArg State.p1 (advance_eraseAdvanced n s)
  | p2 => exact congrArg State.p2 (advance_eraseAdvanced n s)

theorem advance_tri_latches : (advance n s).tri.latches = s.tri.latches :=
  congrArg State.tri (advance_eraseAdvanced n s)

theorem advance_noi_latches : (advance n s).noi.latches = s.noi.latches :=
  congrArg State.noi (advance_eraseAdvanced n s)

theorem advance_dmc_latches : (advance n s).dmc.latches = s.dmc.latches :=
  congrArg State.dmc (advance_eraseAdvanced n s)

end advance

/-! ### Equal latches, written out -/

theorem Machine.Pulse.eq_of_latches_eq {g g' : Pulse} (h : g'.latches = g.latches) : g' = { g with
    env := { g.env with div := g'.env.div, level := g'.env.level }, swDiv := g'.swDiv, swWritten := g'.swWritten,
    swResult := g'.swResult, period := g'.period, timer := g'.timer, dutyStep := g'.dutyStep, length := g'.length } :=
  congrArg (fun l : Pulse => { l with
    env := { l.env with div := g'.env.div, level := g'.env.level }, swDiv := g'.swDiv, swWritten := g'.swWritten,
    swResult := g'.swResult, period := g'.period, timer := g'.timer, dutyStep := g'.dutyStep, length := g'.length }) h

theorem Machine.Triangle.eq_of_latches_eq {g g' : Triangle} (h : g'.latches = g.latches) : g' = { g with
    linCounter := g'.linCounter, halt := g'.halt, timer := g'.timer, step := g'.step, length := g'.length } :=
  congrArg (fun l : Triangle => { l with
    linCounter := g'.linCounter, halt := g'.halt, timer := g'.timer, step := g'.step, length := g'.length }) h

theorem Machine.Noise.eq_of_latches_eq {g g' : Noise} (h : g'.latches = g.latches) : g' = { g with
    env := { g.env with div := g'.env.div, level := g'.env.level }, timer := g'.timer, lfsr := g'.lfsr,
    length := g'.length } :=
  congrArg (fun l : Noise => { l with
    env := { l.env with div := g'.env.div, level := g'.env.level }, timer := g'.timer, lfsr := g'.lfsr,
    length := g'.length }) h

theorem Machine.Dmc.eq_of_latches_eq {g g' : Dmc} (h : g'.latches = g.latches) : g' = { g with
    timer := g'.timer, curAddr := g'.curAddr, bytes := g'.bytes, buffer := g'.buffer, filled := g'.filled,
    shift := g'.shift, bitDiv := g'.bitDiv, silence := g'.silence, delta := g'.delta, irq := g'.irq } :=
  congrArg (fun l : Dmc => { l with
    timer := g'.timer, curAddr := g'.curAddr, bytes := g'.bytes, buffer := g'.buffer, filled := g'.filled,
    shift := g'.shift, bitDiv := g'.bitDiv, silence := g'.silence, delta := g'.delta, irq := g'.irq }) h

/-- Settles O41: a cycle leaves the latches, the domain and the mode alone. -/
theorem advanceKeepsRegisterLatches : Obligations.AdvanceKeepsRegisterLatches := by
  intro n s
  refine ⟨advance n.toNat s, rfl, fun p => ⟨_, rfl, Pulse.eq_of_latches_eq (advance_pulse_latches _ s p)⟩,
    Triangle.eq_of_latches_eq (advance_tri_latches _ s), Noise.eq_of_latches_eq (advance_noi_latches _ s),
    Dmc.eq_of_latches_eq (advance_dmc_latches _ s), advance_domain _ s, advance_seqMode _ s⟩

end Sys2Proof
end

/-! ## What every command does (spec/40_host_commands.md R140, R157; spec/10_state.md R22, R30)

Rules over all commands: each completes, none writes memory, and the fields of the sequencer, the `enabled` flags and
the IRQ flag have the writers named for them. -/

section
namespace Sys2Proof
open Machine

/-- Settles O7: every meaning ends in a next state, both forms of a MODE write included. -/
theorem everyCommandCompletes : Obligations.EveryCommandCompletes := by
  intro i s
  cases i with
  | wrMode d => exact execWrMode_next d s
  | _ => exact ⟨_, rfl⟩

/-! ### The sequencer, the store and the queue -/

/-- R171: a MODE write reaches the sequencer's index and mode, and the generators that its ticks clock. -/
theorem execWrMode_frame {d : Byte} {s t : State} (hexec : execWrMode d s = .next t) :
    t.frameTime = s.frameTime ∧ t.seqDiv = s.seqDiv ∧ t.domain = s.domain ∧ t.store = s.store ∧
      t.pending = s.pending ∧ t.dmc = s.dmc := by
  unfold execWrMode at hexec
  split at hexec <;> cases hexec
  · exact ⟨runTicks_frameTime .., runTicks_seqDiv .., runTicks_domain .., runTicks_store .., runTicks_pending ..,
      runTicks_dmc ..⟩
  · exact ⟨rfl, rfl, rfl, rfl, rfl, rfl⟩

/-- Settles O45: of all commands only ADVANCE, a MODE write and a DMC.1 write do more than replace other fields, and the
parts they are made of keep store and queue. -/
theorem storeAndQueueUntouched : Obligations.StoreAndQueueUntouched := by
  intro i s t hexec
  have hkept : t.store = s.store ∧ t.pending = s.pending := by
    cases i with
    | adv n =>
      cases hexec
      exact ⟨advance_store .., advance_pending ..⟩
    | wrMode d =>
      obtain ⟨-, -, -, hstore, hpending, -⟩ := execWrMode_frame hexec
      exact ⟨hstore, hpending⟩
    | wrDmcR1 d =>
      cases hexec
      exact ⟨State.setLevel_store .., State.setLevel_pending ..⟩
    | _ =>
      cases hexec
      exact ⟨rfl, rfl⟩
  obtain ⟨hstore, hpending⟩ := hkept
  exact ⟨fun a => by rw [hstore], hstore, hpending⟩

/-- Settles O47: the named writers are let through, ADVANCE with the mode and the domain that no cycle writes; a MODE
write keeps the rest, and every other command keeps all five fields. -/
theorem sequencerAndTimeWriters : Obligations.SequencerAndTimeWriters := by
  intro i s t hexec
  cases i with
  | adv n =>
    cases hexec
    exact ⟨fun _ => .inl ⟨n, rfl⟩, fun _ => .inl ⟨n, rfl⟩, fun _ => .inl ⟨n, rfl⟩, absurd (advance_seqMode ..),
      absurd (advance_domain ..)⟩
  | wrMode d =>
    obtain ⟨htime, hdiv, hdomain, -⟩ := execWrMode_frame hexec
    exact ⟨absurd htime, absurd hdiv, fun _ => .inr (.inl ⟨d, rfl⟩), fun _ => .inl ⟨d, rfl⟩, absurd hdomain⟩
  | rst =>
    cases hexec
    exact ⟨fun _ => .inr (.inr rfl), fun _ => .inr rfl, fun _ => .inr (.inr rfl), fun _ => .inr rfl, absurd rfl⟩
  | eof =>
    cases hexec
    exact ⟨fun _ => .inr (.inl rfl), absurd rfl, absurd rfl, absurd rfl, absurd rfl⟩
  | clk d =>
    cases hexec
    exact ⟨absurd rfl, absurd rfl, absurd rfl, absurd rfl, fun _ => ⟨d, rfl⟩⟩
  | wrDmcR1 d =>
    cases hexec
    exact ⟨absurd (State.setLevel_frameTime ..), absurd (State.setLevel_seqDiv ..), absurd (State.setLevel_seqIndex ..),
      absurd (State.setLevel_seqMode ..), absurd (State.setLevel_domain ..)⟩
  | _ =>
    cases hexec
    exact ⟨absurd rfl, absurd rfl, absurd rfl, absurd rfl, absurd rfl⟩

/-! ### The `enabled` flags (R30, R356) -/

/-- The `enabled` flag of each generator that has one; the sample unit has none (R28). -/
def Machine.State.enabledOf (s : State) : Channel → Bool
  | .p1  => s.p1.enabled
  | .p2  => s.p2.enabled
  | .tri => s.tri.enabled
  | .noi => s.noi.enabled
  | .dmc => false

/-- The `ctrl` flag of each generator that has one. -/
def Machine.State.ctrlOf (s : State) : Channel → Bool
  | .p1  => s.p1.ctrl
  | .p2  => s.p2.ctrl
  | .tri => s.tri.ctrl
  | .noi => s.noi.ctrl
  | .dmc => false

/-- The sub-register 3 write of a generator, which loads its length counter. -/
def Instr.Triggers (i : Instr) : Channel → Prop
  | .p1  => ∃ d, i = .wrP1R3 d
  | .p2  => ∃ d, i = .wrP2R3 d
  | .tri => ∃ d, i = .wrTriR3 d
  | .noi => ∃ d, i = .wrNoiR3 d
  | .dmc => ∃ d, i = .wrDmcR3 d

section enabledOf
variable {s t : State}

/-- The `enabled` flags are among the latches. -/
theorem enabledOf_eq_of_eraseAdvanced_eq (h : t.eraseAdvanced = s.eraseAdvanced) (c : Channel) :
    t.enabledOf c = s.enabledOf c := by
  have herased (u : State) : u.eraseAdvanced.enabledOf c = u.enabledOf c := by cases c <;> rfl
  rw [← herased t, h, herased]

theorem execWrMode_enabledOf {d : Byte} (hexec : execWrMode d s = .next t) (c : Channel) :
    t.enabledOf c = s.enabledOf c := by
  unfold execWrMode at hexec
  split at hexec <;> cases hexec
  · rw [enabledOf_eq_of_eraseAdvanced_eq (runTicks_eraseAdvanced ..)]
    cases c <;> rfl
  · cases c <;> rfl

theorem setLevel_enabledOf (ch : Channel) (v : Nat) (stamp : Time) (c : Channel) :
    (setLevel ch v stamp s).enabledOf c = s.enabledOf c := by
  cases c <;> simp [State.enabledOf]

/-- R356: a flag that is set after a command was set before it, or the command triggers a generator under control. -/
theorem exec_enabledOf {i : Instr} (hexec : exec i s = .next t) (c : Channel) (henabled : t.enabledOf c = true) :
    s.enabledOf c = true ∨ (s.ctrlOf c = true ∧ i.Triggers c) := by
  cases i with
  | wrP1R3 d =>
    cases hexec
    cases c with
    | p1 => exact (Bool.or_eq_true_iff.mp henabled).imp_right (⟨·, d, rfl⟩)
    | _ => exact .inl henabled
  | wrP2R3 d =>
    cases hexec
    cases c with
    | p2 => exact (Bool.or_eq_true_iff.mp henabled).imp_right (⟨·, d, rfl⟩)
    | _ => exact .inl henabled
  | wrTriR3 d =>
    cases hexec
    cases c with
    | tri => exact (Bool.or_eq_true_iff.mp henabled).imp_right (⟨·, d, rfl⟩)
    | _ => exact .inl henabled
  | wrNoiR3 d =>
    cases hexec
    cases c with
    | noi => exact (Bool.or_eq_true_iff.mp henabled).imp_right (⟨·, d, rfl⟩)
    | _ => exact .inl henabled
  | wrStatus d =>
    cases hexec
    cases c with
    | dmc => exact .inl henabled
    | _ => exact .inl (Bool.and_eq_true_iff.mp henabled).1
  | rst =>
    cases hexec
    cases c <;> cases henabled
  | adv n =>
    cases hexec
    exact .inl (enabledOf_eq_of_eraseAdvanced_eq (advance_eraseAdvanced n.toNat s) c ▸ henabled)
  | wrMode d => exact .inl (execWrMode_enabledOf hexec c ▸ henabled)
  | wrDmcR1 d =>
    cases hexec
    rw [setLevel_enabledOf] at henabled
    exact .inl (by cases c <;> exact henabled)
  | _ =>
    cases hexec
    exact .inl (by cases c <;> exact henabled)

end enabledOf

/-- Settles O48: a flag that was not set before the command leaves only the trigger under control. -/
theorem enabledOnlyByTriggerAfterControl : Obligations.EnabledOnlyByTriggerAfterControl := by
  intro i s t hexec
  have hset (c : Channel) (hbefore : s.enabledOf c = false) (hafter : t.enabledOf c = true) :
      s.ctrlOf c = true ∧ i.Triggers c :=
    (exec_enabledOf hexec c hafter).resolve_left (Bool.eq_false_iff.mp hbefore)
  exact ⟨hset .p1, hset .p2, hset .tri, hset .noi⟩

/-! ### The IRQ flag (R277, R281, R322) -/

/-- What fires can make of the IRQ flag: they set it only at the end of a sample, and no bytes are left from then on. -/
structure Machine.Dmc.FiresTo (g g' : Dmc) : Prop where
  irqEn : g'.irqEn = g.irqEn
  loop  : g'.loop = g.loop
  done  : g.bytes = 0 → g'.bytes = 0
  kept  : g.irq = true → g'.irq = true
  set   : g.irq = false → g'.irq = true → g.irqEn = true ∧ g.loop = false ∧ g.bytes ≠ 0 ∧ g'.bytes = 0

section firesTo
variable {g g' g'' : Dmc}

/-- An update that leaves the flag alone and starts no sample. -/
theorem Machine.Dmc.FiresTo.of_irq_eq (hirqEn : g'.irqEn = g.irqEn) (hloop : g'.loop = g.loop)
    (hdone : g.bytes = 0 → g'.bytes = 0) (hirq : g'.irq = g.irq) : g.FiresTo g' where
  irqEn := hirqEn
  loop := hloop
  done := hdone
  kept := hirq.trans
  set hclear hset := absurd (hset.symm.trans (hirq.trans hclear)) nofun

theorem Machine.Dmc.FiresTo.refl (g : Dmc) : g.FiresTo g := .of_irq_eq rfl rfl id rfl

/-- The flag set in the second part: there were bytes left at its start, so at the start of the first, too. -/
theorem Machine.Dmc.FiresTo.trans (h : g.FiresTo g') (h' : g'.FiresTo g'') : g.FiresTo g'' where
  irqEn := h'.irqEn.trans h.irqEn
  loop := h'.loop.trans h.loop
  done := h'.done ∘ h.done
  kept := h'.kept ∘ h.kept
  set hclear hset := by
    cases hirq : g'.irq with
    | true =>
      obtain ⟨hirqEn, hloop, hbytes, hdone⟩ := h.set hclear hirq
      exact ⟨hirqEn, hloop, hbytes, h'.done hdone⟩
    | false =>
      obtain ⟨hirqEn, hloop, hbytes, hdone⟩ := h'.set hirq hset
      exact ⟨h.irqEn ▸ hirqEn, h.loop ▸ hloop, mt h.done hbytes, hdone⟩

/-- R281: the reader sets the flag after the last byte of a sample that does not loop. -/
theorem Machine.Dmc.afterReader_firesTo (g : Dmc) (b : Byte) : g.FiresTo (g.afterReader b) := by
  have hleft (h : 0 < g.bytes.toNat) : g.bytes ≠ 0 := (ne_zero_iff_toNat_pos _).mpr h
  rw [Dmc.afterReader_eq]
  split_ifs with hmore hlast hloop
  · exact .of_irq_eq rfl rfl (fun hdone => absurd hdone (hleft (by omega))) rfl
  · exact .of_irq_eq rfl rfl (fun hdone => absurd hdone (hleft (by omega))) rfl
  · refine ⟨rfl, rfl, fun _ => rfl, fun h => Bool.or_eq_true_iff.mpr (.inl h), fun hclear hset => ?_⟩
    exact ⟨(Bool.or_eq_true_iff.mp hset).resolve_left (Bool.eq_false_iff.mp hclear), Bool.eq_false_iff.mpr hloop,
      hleft (by omega), rfl⟩
  · exact .refl g

/-- R282: the output unit does not touch the flag. -/
theorem Machine.Dmc.outputBit_firesTo (g : Dmc) : g.FiresTo g.outputBit := by
  unfold Dmc.outputBit Dmc.startOutput
  split_ifs <;> exact .of_irq_eq rfl rfl id rfl

end firesTo

theorem fireDmcReload_firesTo (t : Time) (s : State) : s.dmc.FiresTo (fireDmcReload t s).dmc := by
  rw [(fireDmcReload_fires t s).dmc]
  exact ((s.dmc.afterReader_firesTo s.cursorByte).trans (Dmc.outputBit_firesTo _)).trans (.of_irq_eq rfl rfl id rfl)

theorem dmcCycle_firesTo (now : Time) (s : State) : s.dmc.FiresTo (dmcCycle now s).dmc := by
  refine countCycle_keeps (fun s t => s.dmc.FiresTo t.dmc) (fun s => .refl s.dmc) (fun _ _ _ h h' => h.trans h') ?_
    fireDmcReload_firesTo now s
  exact fun _ _ => .of_irq_eq rfl rfl id rfl

/-- R149: a master cycle makes of the sample unit's fields what its own cycle makes of them. -/
theorem cycle_dmc (s : State) : (cycle s).dmc = (dmcCycle s.frameTime s).dmc := by
  obtain ⟨⟨hdmc, -⟩, -⟩ := generatorsCycle_agreeOn_dmc s.frameTime s
  rw [cycle_eq, stepIfExpired_dmc, elapse_dmc, hdmc]

theorem advance_firesTo (n : Nat) (s : State) : s.dmc.FiresTo (advance n s).dmc := by
  refine advance_keeps (fun s t => s.dmc.FiresTo t.dmc) (fun s => .refl s.dmc) (fun _ _ _ h h' => h.trans h') ?_ n s
  intro s
  rw [cycle_dmc]
  exact dmcCycle_firesTo s.frameTime s

/-- A flag that a command leaves alone is neither set nor cleared by it. -/
theorem not_set_not_cleared {P Q : Prop} {before after : Bool} (h : after = before) :
    (before = false → after = true → P) ∧ (before = true → after = false → Q) := by
  subst h
  cases after <;> exact ⟨nofun, nofun⟩

/-- Settles O49: ADVANCE is a run of fires; the three clearing commands are let through; every other command leaves the
flag alone. -/
theorem irqFlagSetAndCleared : Obligations.IrqFlagSetAndCleared := by
  intro i s t hexec
  cases i with
  | adv n =>
    cases hexec
    have hfires := advance_firesTo n.toNat s
    refine ⟨fun hclear hset => ?_, fun hset hclear => ?_⟩
    · obtain ⟨hirqEn, hloop, hbytes, hdone⟩ := hfires.set hclear hset
      exact ⟨⟨n, rfl⟩, hirqEn, hloop, (ne_zero_iff_toNat_pos _).mp hbytes, congrArg BitVec.toNat hdone⟩
    · exact absurd (hfires.kept hset) (Bool.eq_false_iff.mp hclear)
  | wrDmcR0 d =>
    cases hexec
    have hflags : (s.dmc.write0 s.domain d).irq = (s.dmc.irq && flagBit d 7) := rfl
    refine ⟨fun hclear hset => ?_, fun hset hclear => .inl ⟨d, rfl, ?_⟩⟩
    · exact absurd (Bool.and_eq_true_iff.mp hset).1 (Bool.eq_false_iff.mp hclear)
    · have hbit : flagBit d 7 = false := by simpa [hflags, hset] using hclear
      rw [Bool.eq_false_iff, ne_eq, flagBit_seven_eq_true_iff] at hbit
      omega
  | wrStatus d =>
    cases hexec
    exact ⟨fun _ => nofun, fun _ _ => .inr (.inl ⟨d, rfl⟩)⟩
  | rst =>
    cases hexec
    exact ⟨fun _ => nofun, fun _ _ => .inr (.inr rfl)⟩
  | wrMode d =>
    obtain ⟨-, -, -, -, -, hdmc⟩ := execWrMode_frame hexec
    exact not_set_not_cleared (congrArg Dmc.irq hdmc)
  | wrDmcR1 d =>
    cases hexec
    exact not_set_not_cleared (congrArg Dmc.irq (State.setLevel_dmc ..) :)
  | _ =>
    cases hexec
    exact not_set_not_cleared rfl

end Sys2Proof
end

/-! ## Host actions on the store and the queue (spec/20_memory.md R77, R86; spec/60_exceptions.md R332) -/

section
namespace Sys2Proof
open Machine

/-- Settles O6: the step performs the head of the queue; a load lays its bytes out from 0xC000 on, which
`Memory.read_cells` reads back. -/
theorem storeActionsLoadAndClear : Obligations.StoreActionsLoadAndClear := by
  intro s rest
  refine ⟨fun bytes hpending hlength => ?_, fun hpending => ?_, step_of_pending_nil⟩
  · refine ⟨Memory.load bytes, ?_, Memory.read_cells bytes 0xC000⟩
    rw [step_of_pending_cons hpending]
    exact if_pos hlength
  · exact ⟨Memory.clear, step_of_pending_cons hpending, fun _ => rfl⟩

/-- An accepted action is performed, and leaves the rest of the queue alone. -/
theorem runAction_of_accepted {a : HostAction} (haccepted : Accepted a) (s : State) :
    ∃ t, runAction a s = .next t ∧ t.pending = s.pending := by
  cases a with
  | word w =>
    cases hdecode : decode w with
    | ok i =>
      obtain ⟨t, hexec⟩ := everyCommandCompletes i s
      obtain ⟨-, -, hpending⟩ := storeAndQueueUntouched i s t hexec
      exact ⟨t, (runWord_of_decode_ok hdecode s).trans hexec, hpending⟩
    | error why => exact absurd ((reservedWord_iff_exists_decode_error w).mpr ⟨why, hdecode⟩) haccepted
  | load bytes => exact ⟨_, if_pos haccepted, rfl⟩
  | clear => exact ⟨_, rfl, rfl⟩

/-- One step, then `k` more. -/
theorem run_succ_of_step {M : Host.Core} {s t : M.State} (hstep : M.step s = .next t) (k : Nat) :
    M.run (k + 1) s = M.run k t := by
  rw [Host.Core.run, hstep]

/-- Settles O8: by induction on the queue, each step performs its head and leaves its tail. -/
theorem acceptedQueueRunsToItsEnd : Obligations.AcceptedQueueRunsToItsEnd := by
  intro s haccepted
  generalize hqueue : s.pending = queue at haccepted ⊢
  induction queue generalizing s with
  | nil => exact ⟨s, rfl, hqueue⟩
  | cons a rest ih =>
    obtain ⟨hhead, htail⟩ := List.forall_mem_cons.mp haccepted
    obtain ⟨t, hrun, hpending⟩ := runAction_of_accepted hhead { s with pending := rest }
    obtain ⟨u, hruns, hempty⟩ := ih t hpending htail
    have hstep : step s = .next t := (step_of_pending_cons hqueue).trans hrun
    exact ⟨u, (run_succ_of_step (M := core) hstep rest.length).trans hruns, hempty⟩

end Sys2Proof
end

/-! ## The period registers (spec/20_memory.md R78; spec/30_encoding.md R112, R113, R116, R126, R128) -/

section
namespace Sys2Proof.Machine

/-- R112, R126: the data below the high three bits of the old period. -/
theorem toNat_withPeriodLow (period : Period) (data : Byte) :
    (withPeriodLow period data).toNat = period.toNat / 2 ^ 8 * 2 ^ 8 + data.toNat := by
  have hperiod := Period.toNat_lt period
  rw [withPeriodLow, BitVec.toNat_append, ← Nat.shiftLeft_add_eq_or_of_lt data.isLt, BitVec.extractLsb'_toNat,
    Nat.shiftRight_eq_div_pow, Nat.shiftLeft_eq]
  omega

/-- Settles O15: the three commands put `withPeriodLow` of the data in place of their generator's period. -/
theorem periodLowWrite : Obligations.PeriodLowWrite := by
  intro data s
  exact ⟨withPeriodLow s.p1.period data, withPeriodLow s.p2.period data, withPeriodLow s.tri.period data, rfl, rfl, rfl,
    toNat_withPeriodLow .., toNat_withPeriodLow .., toNat_withPeriodLow ..⟩

/-- R128: the two writes of `PER` put both parts of the period in place of the old ones. -/
theorem withPeriodHigh_withPeriodLow (old n : Period) (l : BitVec 5) :
    withPeriodHigh (withPeriodLow old (n.extractLsb' 0 8)) (l ++ n.extractLsb' 8 3) = n := by
  have hhigh : (l ++ n.extractLsb' 8 3).extractLsb' 0 3 = n.extractLsb' 8 3 :=
    (BitVec.extractLsb'_append_eq_of_add_le (by decide)).trans BitVec.extractLsb'_eq_self
  have hlow : (old.extractLsb' 8 3 ++ n.extractLsb' 0 8).extractLsb' 0 8 = n.extractLsb' 0 8 :=
    (BitVec.extractLsb'_append_eq_of_add_le (by decide)).trans BitVec.extractLsb'_eq_self
  calc withPeriodHigh (withPeriodLow old (n.extractLsb' 0 8)) (l ++ n.extractLsb' 8 3)
      = n.extractLsb' 8 3 ++ n.extractLsb' 0 8 := congrArg₂ (· ++ ·) hhigh hlow
    _ = n.extractLsb' 0 11 := BitVec.extractLsb'_append_extractLsb'_eq_extractLsb' rfl
    _ = n := BitVec.extractLsb'_eq_self

/-- R126: the length index stands above the three period bits. -/
theorem lengthLoad_append (l : BitVec 5) (high : BitVec 3) : lengthLoad (l ++ high) = lengthOf l := by
  have hindex : (l ++ high).extractLsb' 3 5 = l :=
    (BitVec.extractLsb'_append_eq_of_le le_rfl).trans BitVec.extractLsb'_eq_self
  exact congrArg lengthOf hindex

/-- Settles O21: the second write puts the high bits above the low ones of the first, and loads the length. -/
theorem periodAssembledFromTwoWrites : Obligations.PeriodAssembledFromTwoWrites := by
  intro n l s
  refine ⟨⟨_, _, _, _, rfl, rfl, rfl, ?_, ?_⟩, ⟨_, _, _, _, rfl, rfl, rfl, ?_, ?_⟩, ⟨_, _, _, _, rfl, rfl, rfl, ?_, ?_⟩⟩
  · exact withPeriodHigh_withPeriodLow s.p1.period n l
  · exact lengthLoad_append l _
  · exact withPeriodHigh_withPeriodLow s.p2.period n l
  · exact lengthLoad_append l _
  · exact withPeriodHigh_withPeriodLow s.tri.period n l
  · exact lengthLoad_append l _

end Sys2Proof.Machine
end

/-! ## RESET (spec/10_state.md R33; spec/40_host_commands.md R141; spec/70_reset_and_hazards.md R350) -/

section
namespace Sys2Proof.Machine

theorem noisePeriod_zero (d : Domain) : noisePeriod d 0 = 4 := by cases d <;> rfl

theorem dmcPeriod_zero (d : Domain) : dmcPeriod d 0 = if d = .ntsc then 428 else 398 := by cases d <;> rfl

/-- Settles O37: the reset values are literals but for the three that are looked up in the present domain. -/
theorem resetLeavesResetValues : Obligations.ResetLeavesResetValues := by
  intro s
  refine ⟨resetBlock s, rfl, rfl, ?_⟩
  rw [← seqPeriod_eq_ite, ← dmcPeriod_zero, ← noisePeriod_zero s.domain]
  rfl

/-- Settles O53: each generator's reset values meet its ranges, the index is 0, the divider full and the store empty. -/
theorem resetSatisfiesInvariant : Obligations.ResetSatisfiesInvariant where
  p1 := Pulse.zero_inRange
  p2 := Pulse.zero_inRange
  tri := Triangle.zero_inRange
  noi := Noise.afterReset_inRange .ntsc
  dmc := Dmc.afterReset_inRange .ntsc
  index := Nat.zero_le 3
  divider := seqPeriod_bounds .ntsc
  store := rfl

end Sys2Proof.Machine
end

/-! ## What the sample data reaches (spec/45_dpcm.md R281, R282; spec/93_implementation_defined.md U2)

Blank out the store, the draws, and all that the fetched bytes are to reach: the cycles of the other generators, the
ticks and the clock commute with the blanking, and a fire of the sample unit, blanked, is a function of the blanked
state. -/

section
namespace Sys2Proof
open Machine

/-- The sample unit with the fields blanked that hold sample data or are computed from it. -/
def Machine.Dmc.blankData (g : Dmc) : Dmc := { g with buffer := 0, shift := 0, delta := 0 }

/-- The state with all blanked that sample data may reach: the store itself, the draws, those fields of the sample unit,
its level and its level events. -/
def Machine.State.blankData (s : State) : State :=
  { s with
    store := [], draws := 0, dmc := s.dmc.blankData, levels := { s.levels with dmc := 0 }
    events := s.events.filter (·.ch ≠ .dmc) }

/-- The two states differ in sample data and what it may reach alone. -/
def SameButData (a b : State) : Prop := a.blankData = b.blankData

/-! ### The other generators commute with the blanking -/

theorem setLevel_blankData {ch : Channel} (hch : ch ≠ .dmc) (v : Nat) (t : Time) (s : State) :
    setLevel ch v t s.blankData = (setLevel ch v t s).blankData := by
  have hget : s.blankData.levels.get ch = s.levels.get ch := by
    cases ch with
    | dmc => exact absurd rfl hch
    | _ => rfl
  unfold setLevel
  rw [hget]
  split
  · rfl
  · cases ch with
    | dmc => exact absurd rfl hch
    | _ => simp [State.blankData, State.emit, Levels.set]

theorem Machine.State.pulse_blankData (p : PulseId) (s : State) : s.blankData.pulse p = s.pulse p := by cases p <;> rfl

theorem Machine.State.setPulse_blankData (p : PulseId) (g : Pulse) (s : State) :
    s.blankData.setPulse p g = (s.setPulse p g).blankData := by
  cases p <;> rfl

theorem Machine.PulseId.channel_ne_dmc (p : PulseId) : p.channel ≠ .dmc := by cases p <;> nofun

/-- A timer cycle commutes with a map of states that leaves its timer alone and commutes with its parts. -/
theorem countCycle_map (f : State → State) {n : Nat} {timer : State → BitVec n} {setTimer : State → BitVec n → State}
    {fire : Time → State → State} (htimer : ∀ s, timer (f s) = timer s)
    (hset : ∀ s k, setTimer (f s) k = f (setTimer s k)) (hfire : ∀ t s, fire t (f s) = f (fire t s)) (now : Time)
    (s : State) : countCycle timer setTimer fire now (f s) = f (countCycle timer setTimer fire now s) := by
  refine countCycle_rel (fun a b => b = f a) ?_ ?_ ?_ now rfl
  · rintro a b rfl
    exact (htimer a).symm
  · rintro a b rfl k
    exact hset a k
  · rintro a b rfl t
    exact hfire t a

theorem firePulseReload_blankData (p : PulseId) (t : Time) (s : State) :
    firePulseReload p t s.blankData = (firePulseReload p t s).blankData := by
  simp only [firePulseReload, firePulse, State.pulse_blankData, setLevel_blankData p.channel_ne_dmc,
    State.setPulse_blankData]

theorem pulseCycle_blankData (p : PulseId) (now : Time) (s : State) :
    pulseCycle p now s.blankData = (pulseCycle p now s).blankData := by
  simp only [pulseCycle, State.pulse_blankData]
  split
  · rfl
  · refine countCycle_map State.blankData (fun s => ?_) (fun s k => ?_) (firePulseReload_blankData p) now s
    · rw [State.pulse_blankData]
    · rw [State.pulse_blankData, State.setPulse_blankData]

theorem fireTriReload_blankData (t : Time) (s : State) :
    fireTriReload t s.blankData = (fireTriReload t s).blankData := by
  simp only [fireTriReload, fireTri, setLevel_blankData (ch := .tri) nofun]
  rfl

theorem triUltrasonic_blankData (now : Time) (s : State) :
    triUltrasonic now s.blankData = (triUltrasonic now s).blankData := by
  simp only [triUltrasonic, setLevel_blankData (ch := .tri) nofun]
  rfl

theorem triCycle_blankData (now : Time) (s : State) : triCycle now s.blankData = (triCycle now s).blankData := by
  have htri : s.blankData.tri = s.tri := rfl
  simp only [triCycle, htri]
  split
  · rfl
  · split
    · exact triUltrasonic_blankData now s
    · exact countCycle_map State.blankData (fun _ => rfl) (fun _ _ => rfl) fireTriReload_blankData now s

theorem fireNoiseReload_blankData (t : Time) (s : State) :
    fireNoiseReload t s.blankData = (fireNoiseReload t s).blankData := by
  simp only [fireNoiseReload, fireNoise, setLevel_blankData (ch := .noi) nofun]
  rfl

theorem noiseCycle_blankData (now : Time) (s : State) : noiseCycle now s.blankData = (noiseCycle now s).blankData := by
  refine countCycle_map State.blankData ?_ ?_ fireNoiseReload_blankData now s
  · exact fun _ => rfl
  · exact fun _ _ => rfl

/-! ### The sample unit -/

/-- R281: what the reader leaves but for the buffer does not depend on the byte, nor on the data fields. -/
theorem Machine.Dmc.afterReader_blankData (g : Dmc) (b : Byte) :
    (g.afterReader b).blankData = (g.blankData.afterReader 0).blankData := by
  have hblank : g.blankData = { g with buffer := 0, shift := 0, delta := 0 } := rfl
  rw [hblank]
  simp only [Dmc.afterReader_eq]
  split_ifs <;> rfl

/-- R282: when an output cycle starts, and with what but for the data, does not depend on the data. -/
theorem Machine.Dmc.startOutput_blankData (g : Dmc) :
    g.startOutput.blankData = g.blankData.startOutput.blankData := by
  have hblank : g.blankData = { g with buffer := 0, shift := 0, delta := 0 } := rfl
  rw [hblank]
  simp only [Dmc.startOutput_eq]
  split_ifs <;> rfl

/-- R281: the fetch, and what it leaves of the unit. -/
theorem dmcReader_blankData (t : Time) (s : State) : (dmcReader t s).blankData = { s.blankData with
    dmc := (s.blankData.dmc.afterReader 0).blankData
    fetches := s.blankData.fetches ++ s.blankData.dmc.fetchAt t } := by
  have hdmc : s.blankData.dmc = s.dmc.blankData := rfl
  have hfetch : s.dmc.blankData.fetchAt t = s.dmc.fetchAt t := rfl
  rw [hdmc, hfetch, ← Dmc.afterReader_blankData s.dmc s.cursorByte]
  unfold dmcReader Dmc.afterReader Dmc.fetchAt
  split
  · rfl
  · rw [List.append_nil]
    rfl

/-- R301: a SetLevel call of the sample unit is blanked out. -/
theorem setLevel_dmc_blankData (v : Nat) (t : Time) (s : State) : (setLevel .dmc v t s).blankData = s.blankData := by
  unfold setLevel
  split
  · rfl
  · simp [State.blankData, State.emit, Levels.set]

theorem Machine.Dmc.outputBit_blankData (g : Dmc) : g.outputBit.blankData = g.blankData.outputBit.blankData :=
  congrArg (fun g : Dmc => { g with bitDiv := g.bitDiv - 1 }) g.startOutput_blankData

/-- R282: what the output unit leaves. -/
theorem dmcOutput_blankData (t : Time) (s : State) :
    (dmcOutput t s).blankData = { s.blankData with dmc := s.blankData.dmc.outputBit.blankData } := by
  have hdmc : s.blankData.dmc = s.dmc.blankData := rfl
  rw [dmcOutput, setLevel_dmc_blankData, hdmc, ← Dmc.outputBit_blankData]
  rfl

/-! ### Cycles keep the data apart -/

section sameButData
variable {a b : State}

/-- What commutes with the blanking keeps the data apart. -/
theorem SameButData.map (h : SameButData a b) {f : State → State} (hf : ∀ s, f s.blankData = (f s).blankData) :
    SameButData (f a) (f b) := by
  rw [SameButData, ← hf, h, hf]

theorem SameButData.fireDmcReload (h : SameButData a b) (t : Time) :
    SameButData (fireDmcReload t a) (fireDmcReload t b) := by
  have hfire : (fireDmc t a).blankData = (fireDmc t b).blankData := by
    simp only [fireDmc, dmcOutput_blankData, dmcReader_blankData]
    rw [h]
  exact congrArg (fun s : State => { s with dmc := { s.dmc with timer := s.dmc.period } }) hfire

theorem SameButData.dmcCycle (h : SameButData a b) (now : Time) : SameButData (dmcCycle now a) (dmcCycle now b) := by
  refine countCycle_rel SameButData ?_ ?_ SameButData.fireDmcReload now h
  · exact fun h => (congrArg (fun s => s.dmc.timer) h :)
  · exact fun h k => (congrArg (fun s : State => { s with dmc := { s.dmc with timer := k } }) h :)

theorem SameButData.generatorsCycle (h : SameButData a b) (now : Time) :
    SameButData (generatorsCycle now a) (generatorsCycle now b) :=
  ((((h.map (pulseCycle_blankData .p1 now)).map (pulseCycle_blankData .p2 now)).map (triCycle_blankData now)).map
    (noiseCycle_blankData now)).dmcCycle now

theorem runTicks_blankData (fast slow reserved : Bool) (s : State) :
    runTicks fast slow reserved s.blankData = (runTicks fast slow reserved s).blankData := by
  cases fast <;> cases slow <;> cases reserved <;> rfl

theorem seqStep_blankData (s : State) : seqStep s.blankData = (seqStep s).blankData :=
  runTicks_blankData _ _ _ { s with seqIndex := nextIndex s.seqMode s.seqIndex }

theorem stepIfExpired_blankData (s : State) : stepIfExpired s.blankData = (stepIfExpired s).blankData := by
  have hdiv : s.blankData.seqDiv = s.seqDiv := rfl
  unfold stepIfExpired
  rw [hdiv]
  split
  · exact seqStep_blankData { s with seqDiv := seqPeriod s.domain }
  · rfl

theorem SameButData.cycle (h : SameButData a b) : SameButData (cycle a) (cycle b) := by
  have htime : a.frameTime = b.frameTime := (congrArg State.frameTime h :)
  rw [cycle_eq, cycle_eq, htime]
  exact ((h.generatorsCycle b.frameTime).map (f := elapse 1) (fun _ => rfl)).map stepIfExpired_blankData

theorem SameButData.advance (h : SameButData a b) (n : Nat) : SameButData (advance n a) (advance n b) := by
  induction n generalizing a b with
  | zero => exact h
  | succ n ih => exact ih h.cycle

/-! ### What the blanking leaves to see -/

theorem SameButData.dmc_eq (h : SameButData a b) :
    b.dmc = { a.dmc with buffer := b.dmc.buffer, shift := b.dmc.shift, delta := b.dmc.delta } := by
  have hdmc : a.dmc.blankData = b.dmc.blankData := congrArg State.dmc h
  exact congrArg (fun g : Dmc => { g with buffer := b.dmc.buffer, shift := b.dmc.shift, delta := b.dmc.delta })
    hdmc.symm

/-- The events of any other channel are all left. -/
theorem eventsOf_blankData {c : Channel} (hc : c ≠ .dmc) (s : State) :
    eventsOf c s.blankData.events = eventsOf c s.events := by
  simp only [eventsOf, State.blankData, List.filter_filter]
  refine List.filter_congr fun e _ => ?_
  by_cases he : e.ch = c <;> simp [he, hc]

theorem SameButData.agreeOn (h : SameButData a b) {c : Channel} (hc : c ≠ .dmc) : AgreeOn c a b := by
  have hevents : eventsOf c a.events = eventsOf c b.events := by
    rw [← eventsOf_blankData hc, h, eventsOf_blankData hc]
  cases c with
  | p1 => exact ⟨(congrArg State.p1 h :), (congrArg (fun s => s.levels.get .p1) h :), hevents⟩
  | p2 => exact ⟨(congrArg State.p2 h :), (congrArg (fun s => s.levels.get .p2) h :), hevents⟩
  | tri => exact ⟨(congrArg State.tri h :), (congrArg (fun s => s.levels.get .tri) h :), hevents⟩
  | noi => exact ⟨(congrArg State.noi h :), (congrArg (fun s => s.levels.get .noi) h :), hevents⟩
  | dmc => exact absurd rfl hc

end sameButData

/-- Settles O44: the two runs start with the same state but for the data and stay so; what the statement lists is what
the blanking leaves, and ADVANCE does not write the store. -/
theorem sampleDataReachesOnlyTheDelta : Obligations.SampleDataReachesOnlyTheDelta := by
  intro n s m k
  have hstart : SameButData s { s with store := m, draws := k } := rfl
  have h := hstart.advance n.toNat
  refine ⟨advance n.toNat s, advance n.toNat { s with store := m, draws := k }, rfl, rfl, ?_⟩
  refine ⟨(congrArg State.fetches h.symm :), h.dmc_eq, fun _ hc => h.agreeOn hc, (congrArg State.seqIndex h.symm :),
    (congrArg State.seqMode h.symm :), (congrArg State.seqDiv h.symm :), (congrArg State.frameTime h.symm :),
    (congrArg State.domain h.symm :), (congrArg State.pending h.symm :), (congrArg State.responses h.symm :),
    advance_store ..⟩

end Sys2Proof
end
